-- ==== Sys2Proof/Word.lean ====
section
/-! DEFINITION. The word types of the BN16: bytes of the link, 16-bit epochs and CRCs, 32-bit scan numbers and
counters (R192). Codes, readings and offsets are exact integers. -/

namespace Sys2Proof

/-- A byte of the serial link (R143). -/
abbrev Byte := BitVec 8

/-- A 16-bit quantity: an epoch or a CRC (R146, R192). -/
abbrev Word16 := BitVec 16

/-- A 32-bit quantity that wraps: a scan number or a counter (R192; 00_scope.md, Counters). -/
abbrev Word32 := BitVec 32

end Sys2Proof
end

