-- ==== Sys2Proof/Syntax.lean ====
section
/-! DEFINITION. The commands of the BN16: one constructor per row of spec/opcode_table.json. A request's operands are the
bytes of the held frame it is taken from, so its constructor has none (log entry 1); the other rows carry what comes
from outside the part at that moment. -/

namespace Sys2Proof

/-- The level of an input line. -/
inductive Level where
  | low
  | high
deriving DecidableEq, Repr

/-- The direction of a transition on TRIG, and the values of trigger_edge (R2, R34). -/
inductive Edge where
  | rising
  | falling
deriving DecidableEq, Repr

/-- An excitation group and its driver (R4, R58). -/
inductive Group where
  | a
  | b
deriving DecidableEq, Repr

/-- A character found on RXD, at the end of its stop bit (R143): one that delivers a byte, or a framing error. `late` says
that 2 ms have passed since the stop bit of the last byte delivered when the error is found (R151, log entry 7). -/
inductive Character where
  | byte (b : Byte)
  | framingError (late : Bool)
deriving DecidableEq, Repr

/-- The commands. The docstring of each names its rule. -/
inductive Instr where
  /-- R176. -/
  | hello
  /-- R174. -/
  | getState
  /-- R183. -/
  | reset
  /-- R187. -/
  | stage
  /-- R173. -/
  | discard
  /-- R186. -/
  | seal
  /-- R179. -/
  | readConfig
  /-- R188. -/
  | start
  /-- R189. -/
  | stop
  /-- R171. -/
  | abort
  /-- R185. -/
  | retrack
  /-- R182. -/
  | readTracker
  /-- R181. -/
  | readResults
  /-- R190. -/
  | subscribe
  /-- R191. -/
  | unsubscribe
  /-- R177. -/
  | listSubscriptions
  /-- R175. -/
  | grant
  /-- R172. -/
  | ackAlerts
  /-- R178. -/
  | readAlerts
  /-- R180. -/
  | readCounters
  /-- R168: a held frame whose KIND names no request. -/
  | unknownKind
  /-- R157: a held frame equal to the last request executed. -/
  | duplicate
  /-- R150: the second CRC byte, which completes the frame. -/
  | frameArrival (crcLow : Byte)
  /-- R149: a LEN byte above 240. -/
  | lengthError (len : Byte)
  /-- R151. -/
  | characterTimeout
  /-- R152; `rate` is the level of RATE, sampled if the break brings a requested reset (R163). -/
  | breakDetected (rate : Level)
  /-- R152: RXD returns high. -/
  | breakEnd
  /-- R153: a start bit in WAKE_LISTEN. In a receiver state that takes characters it begins one (R165, log entry 8). -/
  | wake
  /-- R153: RXD has stayed high for 2 ms in WAKE_QUIET. -/
  | wakeQuietEnd
  /-- R159. -/
  | arbiterChoice
  /-- R159; `rate` is the level of RATE, sampled if the requested reset takes place (R163). -/
  | transmitEnd (rate : Level)
  /-- R184, R162: power is good; the levels of RESET_N and RATE at that moment. -/
  | powerOn (resetN rate : Level)
  /-- R162. -/
  | resetNLow
  /-- R162; the level of RATE, sampled at this moment (R143). -/
  | resetNHigh (rate : Level)
  /-- R162: 5 ms of start-up have passed. -/
  | startUpEnd
  /-- R30. -/
  | armingSettleEnd
  /-- R33. -/
  | timerExpiry
  /-- R34: a transition of TRIG. -/
  | trigEdge (direction : Edge)
  /-- R35: TRIG has held for the width. -/
  | trigger
  /-- R47. -/
  | wakeSettleEnd
  /-- R38. -/
  | syncPulseEnd
  /-- R51: the code, whether the bridge sense showed excitation return throughout, and, where the conversion completes a
  scan, after how many record arrivals the arbiter makes a choice among them (R118, log entry 14). -/
  | conversionEnd (code : BitVec 24) (senseGood : Bool) (choiceAfter : Option Nat)
  /-- R45. -/
  | dozeEntry
  /-- R60. -/
  | overcurrent (group : Group)
  /-- R148. -/
  | characterReceived (c : Character)
deriving DecidableEq, Repr

end Sys2Proof
end

