-- ==== Sys2Proof/Decode.lean ====
section
/-! DEFINITION. The command that a word spells by the bits of spec/opcode_table.json. No row of that table gives bits, so
no word spells a command (log entry 21). The bytes of frames are read in Machine/Operands.lean. -/

namespace Sys2Proof

/-- The command a word of `nbits` bits spells; none, since no row of the table has bits. -/
def decodeTableWord (_nbits _w : Nat) : Option Instr := none

end Sys2Proof
end

