-- ==== Sys2Proof/Config.lean ====
section
/-! DEFINITION. What one BN16 fixes: capacities, identity codes and time lengths the manual gives as numbers. The
manual leaves no value of a result open, so there is no free value here. -/

namespace Sys2Proof.Config

/-- Edits the staging set holds at most (R9). -/
def stagedEdits : Nat := 64
/-- Entries the subscription table holds at most (R97). -/
def subscriptions : Nat := 24
/-- Entries the report queue holds at most (R116). -/
def queueEntries : Nat := 48
/-- Credits never exceed this (R122). -/
def maxCredits : Nat := 255
/-- Counts held in records saturate here: occurrences (R132) and lost_count (R117). -/
def saturation : Nat := 65535
/-- Values a tracker's window holds at most (R71). -/
def windowValues : Nat := 8
/-- A threshold of this value is off (R4, R77). -/
def thresholdOff : Nat := 65535
/-- A follow_scans of this value is continuous (R4). -/
def followContinuous : Nat := 255
/-- Requests the inbound holding holds at most, and replies the reply queue holds at most (R158). -/
def holdingFrames : Nat := 2
/-- The largest LEN of a frame (R145, R149). -/
def maxLen : Nat := 240

/-- HELLO's vendor code (R176). -/
def vendorCode : Word16 := 0x3D0B
/-- The part code of HELLO and READY (R176, R197). -/
def partCode : Word16 := 0x0B16
/-- The silicon revision of HELLO and READY (R176, R197). -/
def siliconRevision : Byte := 0x01
/-- The three capacities of the HELLO reply that are counts of targets (R176). -/
def channelCount : Nat := 16
def slotCount : Nat := 32

/-- One conversion, in µs (R51). -/
def conversionTime : Nat := 200
/-- One unit of the scan period, in µs (R3). -/
def periodUnit : Nat := 100
/-- One millisecond, in µs (R29, R47). -/
def millisecond : Nat := 1000

/-- The largest magnitude of corrected and value (R62). -/
def valueLimit : Int := 8388607
/-- The converter's limit codes (R51). -/
def codeMin : Int := -8388608
def codeMax : Int := 8388607

end Sys2Proof.Config
end

