-- ==== Sys2Proof/Machine/Catalogue.lean ====
section
/-! DEFINITION. The configuration: targets, fields, ids, codes, ranges and defaults of the field catalogue (R1 to R5), the
reading and writing of one field by its number, and the figures computed from a configuration (R3, R5, R6). -/

namespace Sys2Proof.Machine

/-- Driver levels (R2). -/
inductive ExciteLevel where
  | off
  | low
  | mid
  | high
deriving DecidableEq, Repr

/-- Slot kinds (R5). -/
inductive SlotKind where
  | measure
  | reference
deriving DecidableEq, Repr

/-- Zero modes (R4). -/
inductive ZeroMode where
  | fixed
  | track
deriving DecidableEq, Repr

/-- threshold_response, and the effect of RETRACK (R4, R94). -/
inductive Response where
  | soft
  | hard
deriving DecidableEq, Repr

/-- The DEVICE target (R2). -/
structure DeviceConfig where
  periodCount : Nat
  periodScale : Nat
  armSettleMs : Nat
  exciteALevel : ExciteLevel
  exciteBLevel : ExciteLevel
  triggerEdge : Edge
  triggerMinWidth : Nat
  doze : Bool
  alertLine : Bool
  planLength : Nat
deriving DecidableEq, Repr

/-- A CHANNEL target (R4). -/
structure ChannelConfig where
  enabled : Bool
  exciteGroup : Group
  gain : Nat
  oversample : Nat
  zeroMode : ZeroMode
  fixedOffset : Int
  maxCorrection : Nat
  softThreshold : Nat
  hardThreshold : Nat
  thresholdResponse : Response
  weight : Nat
  followScans : Nat
  startTrigger : Bool
  changeTrigger : Bool
  scale : Int
deriving DecidableEq, Repr

/-- A SLOT target (R5). -/
structure SlotConfig where
  kind : SlotKind
  channel : Fin 16
  discards : Nat
deriving DecidableEq, Repr

/-- One value for every field of the 49 targets (R1). -/
structure Configuration where
  device : DeviceConfig
  channels : Vector ChannelConfig 16
  slots : Vector SlotConfig 32
deriving DecidableEq, Repr

/-- The fields of the DEVICE target (R2). -/
inductive DeviceField where
  | periodCount
  | periodScale
  | armSettleMs
  | exciteALevel
  | exciteBLevel
  | triggerEdge
  | triggerMinWidth
  | doze
  | alertLine
  | planLength
deriving DecidableEq, Repr

/-- The fields of a CHANNEL target (R4). -/
inductive ChannelField where
  | enabled
  | exciteGroup
  | gain
  | oversample
  | zeroMode
  | fixedOffset
  | maxCorrection
  | softThreshold
  | hardThreshold
  | thresholdResponse
  | weight
  | followScans
  | startTrigger
  | changeTrigger
  | scale
deriving DecidableEq, Repr

/-- The fields of a SLOT target (R5). -/
inductive SlotField where
  | kind
  | channel
  | discards
deriving DecidableEq, Repr

/-- A target (R1). -/
inductive Target where
  | device
  | channel (n : Fin 16)
  | slot (i : Fin 32)
deriving DecidableEq, Repr

/-- A field of a target: a pair of target and field id that names one (R1). -/
inductive FieldRef where
  | device (f : DeviceField)
  | channel (n : Fin 16) (f : ChannelField)
  | slot (i : Fin 32) (f : SlotField)
deriving DecidableEq, Repr

/-! ### Codes of values (R2, R4, R5) -/

def boolCode (b : Bool) : Int := if b then 1 else 0
def boolOfCode (v : Int) : Bool := decide (v = 1)

def ExciteLevel.code : ExciteLevel → Int
  | .off => 0
  | .low => 1
  | .mid => 2
  | .high => 3

def ExciteLevel.ofCode (v : Int) : ExciteLevel :=
  if v = 0 then .off else if v = 1 then .low else if v = 2 then .mid else .high

def edgeCode : Edge → Int
  | .rising => 0
  | .falling => 1

def edgeOfCode (v : Int) : Edge := if v = 0 then .rising else .falling

def groupCode : Group → Int
  | .a => 0
  | .b => 1

def groupOfCode (v : Int) : Group := if v = 0 then .a else .b

def ZeroMode.code : ZeroMode → Int
  | .fixed => 0
  | .track => 1

def ZeroMode.ofCode (v : Int) : ZeroMode := if v = 0 then .fixed else .track

def Response.code : Response → Int
  | .soft => 0
  | .hard => 1

def Response.ofCode (v : Int) : Response := if v = 0 then .soft else .hard

def SlotKind.code : SlotKind → Int
  | .measure => 0
  | .reference => 1

def SlotKind.ofCode (v : Int) : SlotKind := if v = 0 then .measure else .reference

/-! ### Ids and target codes (R1) -/

def DeviceField.id : DeviceField → Nat
  | .periodCount => 0x01
  | .periodScale => 0x02
  | .armSettleMs => 0x03
  | .exciteALevel => 0x04
  | .exciteBLevel => 0x05
  | .triggerEdge => 0x06
  | .triggerMinWidth => 0x07
  | .doze => 0x08
  | .alertLine => 0x09
  | .planLength => 0x0A

def ChannelField.id : ChannelField → Nat
  | .enabled => 0x01
  | .exciteGroup => 0x02
  | .gain => 0x03
  | .oversample => 0x04
  | .zeroMode => 0x05
  | .fixedOffset => 0x06
  | .maxCorrection => 0x07
  | .softThreshold => 0x08
  | .hardThreshold => 0x09
  | .thresholdResponse => 0x0A
  | .weight => 0x0B
  | .followScans => 0x0C
  | .startTrigger => 0x0D
  | .changeTrigger => 0x0E
  | .scale => 0x0F

def SlotField.id : SlotField → Nat
  | .kind => 0x01
  | .channel => 0x02
  | .discards => 0x03

/-- The fields of each kind of target in ascending id (R24). -/
def DeviceField.all : List DeviceField :=
  [.periodCount, .periodScale, .armSettleMs, .exciteALevel, .exciteBLevel, .triggerEdge, .triggerMinWidth, .doze,
    .alertLine, .planLength]

def ChannelField.all : List ChannelField :=
  [.enabled, .exciteGroup, .gain, .oversample, .zeroMode, .fixedOffset, .maxCorrection, .softThreshold,
    .hardThreshold, .thresholdResponse, .weight, .followScans, .startTrigger, .changeTrigger, .scale]

def SlotField.all : List SlotField := [.kind, .channel, .discards]

/-- The target code of a target (R1). -/
def Target.code : Target → Nat
  | .device => 0x00
  | .channel n => 0x10 + n.val
  | .slot i => 0x40 + i.val

/-- The target a code names, if it names one (R1). -/
def targetOfCode (c : Nat) : Option Target :=
  if c = 0x00 then some .device
  else if h : 0x10 ≤ c ∧ c < 0x20 then some (.channel ⟨c - 0x10, by omega⟩)
  else if h : 0x40 ≤ c ∧ c < 0x60 then some (.slot ⟨c - 0x40, by omega⟩)
  else none

/-- The field an id names within a target, if it names one (R1). -/
def fieldOfId (t : Target) (id : Nat) : Option FieldRef :=
  match t with
  | .device => (DeviceField.all.find? fun f => f.id = id).map .device
  | .channel n => (ChannelField.all.find? fun f => f.id = id).map (.channel n)
  | .slot i => (SlotField.all.find? fun f => f.id = id).map (.slot i)

/-- All fields of a target, in ascending field id (R24). -/
def Target.fields : Target → List FieldRef
  | .device => DeviceField.all.map .device
  | .channel n => ChannelField.all.map (.channel n)
  | .slot i => SlotField.all.map (.slot i)

def FieldRef.target : FieldRef → Target
  | .device _ => .device
  | .channel n _ => .channel n
  | .slot i _ => .slot i

def FieldRef.id : FieldRef → Nat
  | .device f => f.id
  | .channel _ f => f.id
  | .slot _ f => f.id

/-! ### Ranges (R2, R4, R5, R10) -/

def within (lo hi v : Int) : Bool := decide (lo ≤ v) && decide (v ≤ hi)

/-- The range of each DEVICE field (R2). -/
def DeviceField.inRange (v : Int) : DeviceField → Bool
  | .periodCount => within 1 65535 v
  | .periodScale => within 0 7 v
  | .armSettleMs => within 1 255 v
  | .exciteALevel => within 0 3 v
  | .exciteBLevel => within 0 3 v
  | .triggerEdge => within 0 1 v
  | .triggerMinWidth => within 1 255 v
  | .doze => within 0 1 v
  | .alertLine => within 0 1 v
  | .planLength => within 1 32 v

/-- The range of each CHANNEL field (R4); gain and oversample carry one of the listed factors. -/
def ChannelField.inRange (v : Int) : ChannelField → Bool
  | .enabled => within 0 1 v
  | .exciteGroup => within 0 1 v
  | .gain => decide (v ∈ [(1 : Int), 2, 4, 8, 16, 32, 64, 128])
  | .oversample => decide (v ∈ [(1 : Int), 2, 4, 8, 16, 32, 64])
  | .zeroMode => within 0 1 v
  | .fixedOffset => within (-1048575) 1048575 v
  | .maxCorrection => within 0 1048575 v
  | .softThreshold => within 1 65535 v
  | .hardThreshold => within 1 65535 v
  | .thresholdResponse => within 0 1 v
  | .weight => within 0 16 v
  | .followScans => within 0 255 v
  | .startTrigger => within 0 1 v
  | .changeTrigger => within 0 1 v
  | .scale => within (-32768) 32767 v

/-- The range of each SLOT field (R5). -/
def SlotField.inRange (v : Int) : SlotField → Bool
  | .kind => within 0 1 v
  | .channel => within 0 15 v
  | .discards => within 0 15 v

def FieldRef.inRange (v : Int) : FieldRef → Bool
  | .device f => f.inRange v
  | .channel _ f => f.inRange v
  | .slot _ f => f.inRange v

/-- The fields that may be sealed only in STANDBY (R8). -/
def FieldRef.standbyOnly : FieldRef → Bool
  | .device .exciteALevel => true
  | .device .exciteBLevel => true
  | .device .triggerEdge => true
  | .device .triggerMinWidth => true
  | .channel _ .exciteGroup => true
  | .device _ => false
  | .channel _ _ => false
  | .slot _ _ => false

/-! ### Reading and writing one field -/

def DeviceConfig.get (d : DeviceConfig) : DeviceField → Int
  | .periodCount => d.periodCount
  | .periodScale => d.periodScale
  | .armSettleMs => d.armSettleMs
  | .exciteALevel => d.exciteALevel.code
  | .exciteBLevel => d.exciteBLevel.code
  | .triggerEdge => edgeCode d.triggerEdge
  | .triggerMinWidth => d.triggerMinWidth
  | .doze => boolCode d.doze
  | .alertLine => boolCode d.alertLine
  | .planLength => d.planLength

def DeviceConfig.put (d : DeviceConfig) (v : Int) : DeviceField → DeviceConfig
  | .periodCount => { d with periodCount := v.toNat }
  | .periodScale => { d with periodScale := v.toNat }
  | .armSettleMs => { d with armSettleMs := v.toNat }
  | .exciteALevel => { d with exciteALevel := .ofCode v }
  | .exciteBLevel => { d with exciteBLevel := .ofCode v }
  | .triggerEdge => { d with triggerEdge := edgeOfCode v }
  | .triggerMinWidth => { d with triggerMinWidth := v.toNat }
  | .doze => { d with doze := boolOfCode v }
  | .alertLine => { d with alertLine := boolOfCode v }
  | .planLength => { d with planLength := v.toNat }

def ChannelConfig.get (c : ChannelConfig) : ChannelField → Int
  | .enabled => boolCode c.enabled
  | .exciteGroup => groupCode c.exciteGroup
  | .gain => c.gain
  | .oversample => c.oversample
  | .zeroMode => c.zeroMode.code
  | .fixedOffset => c.fixedOffset
  | .maxCorrection => c.maxCorrection
  | .softThreshold => c.softThreshold
  | .hardThreshold => c.hardThreshold
  | .thresholdResponse => c.thresholdResponse.code
  | .weight => c.weight
  | .followScans => c.followScans
  | .startTrigger => boolCode c.startTrigger
  | .changeTrigger => boolCode c.changeTrigger
  | .scale => c.scale

def ChannelConfig.put (c : ChannelConfig) (v : Int) : ChannelField → ChannelConfig
  | .enabled => { c with enabled := boolOfCode v }
  | .exciteGroup => { c with exciteGroup := groupOfCode v }
  | .gain => { c with gain := v.toNat }
  | .oversample => { c with oversample := v.toNat }
  | .zeroMode => { c with zeroMode := .ofCode v }
  | .fixedOffset => { c with fixedOffset := v }
  | .maxCorrection => { c with maxCorrection := v.toNat }
  | .softThreshold => { c with softThreshold := v.toNat }
  | .hardThreshold => { c with hardThreshold := v.toNat }
  | .thresholdResponse => { c with thresholdResponse := .ofCode v }
  | .weight => { c with weight := v.toNat }
  | .followScans => { c with followScans := v.toNat }
  | .startTrigger => { c with startTrigger := boolOfCode v }
  | .changeTrigger => { c with changeTrigger := boolOfCode v }
  | .scale => { c with scale := v }

/-- The channel a slot's channel code names; codes are checked to be 0..15 before they reach this (R10). -/
def channelOfCode (v : Int) : Fin 16 := Fin.ofNat 16 v.toNat

def SlotConfig.get (c : SlotConfig) : SlotField → Int
  | .kind => c.kind.code
  | .channel => (c.channel.val : Int)
  | .discards => c.discards

def SlotConfig.put (c : SlotConfig) (v : Int) : SlotField → SlotConfig
  | .kind => { c with kind := .ofCode v }
  | .channel => { c with channel := channelOfCode v }
  | .discards => { c with discards := v.toNat }

/-- The value a configuration gives a field, in the form the link carries (R1, R194). -/
def Configuration.get (c : Configuration) : FieldRef → Int
  | .device f => c.device.get f
  | .channel n f => c.channels[n].get f
  | .slot i f => c.slots[i].get f

/-- A configuration with one field given a value (R13, R20). -/
def Configuration.put (c : Configuration) (v : Int) : FieldRef → Configuration
  | .device f => { c with device := c.device.put v f }
  | .channel n f => { c with channels := c.channels.set n (c.channels[n].put v f) }
  | .slot i f => { c with slots := c.slots.set i (c.slots[i].put v f) }

/-! ### Defaults (R2, R4, R5, R7) -/

def DeviceConfig.defaults : DeviceConfig where
  periodCount := 1000
  periodScale := 0
  armSettleMs := 20
  exciteALevel := .mid
  exciteBLevel := .mid
  triggerEdge := .rising
  triggerMinWidth := 5
  doze := false
  alertLine := true
  planLength := 16

def ChannelConfig.defaults (n : Fin 16) : ChannelConfig where
  enabled := true
  exciteGroup := if n.val < 8 then .a else .b
  gain := 1
  oversample := 4
  zeroMode := .fixed
  fixedOffset := 0
  maxCorrection := 65535
  softThreshold := 256
  hardThreshold := 4096
  thresholdResponse := .soft
  weight := 4
  followScans := 3
  startTrigger := true
  changeTrigger := true
  scale := 16384

def SlotConfig.defaults (i : Fin 32) : SlotConfig where
  kind := .measure
  channel := Fin.ofNat 16 i.val
  discards := 1

def Configuration.defaults : Configuration where
  device := .defaults
  channels := .ofFn .defaults
  slots := .ofFn .defaults

/-! ### Figures of a configuration -/

/-- The level of a group's driver (R2, R16). -/
def DeviceConfig.level (d : DeviceConfig) : Group → ExciteLevel
  | .a => d.exciteALevel
  | .b => d.exciteBLevel

/-- The scan period in µs (R3). -/
def DeviceConfig.period (d : DeviceConfig) : Nat := d.periodCount * 2 ^ d.periodScale * Config.periodUnit

/-- The scan plan: the slots 0 to plan_length − 1, in order (R5). -/
def Configuration.plan (c : Configuration) : List SlotConfig := c.slots.toList.take c.device.planLength

/-- The time one slot takes, in µs (R6, R39). -/
def Configuration.slotTime (c : Configuration) (sl : SlotConfig) : Nat :=
  (sl.discards + c.channels[sl.channel].oversample) * Config.conversionTime

/-- The scan duration in µs (R6). -/
def Configuration.duration (c : Configuration) : Nat := (c.plan.map c.slotTime).sum

/-- The arming or wake settle in µs (R29, R47). -/
def DeviceConfig.settleTime (d : DeviceConfig) : Nat := d.armSettleMs * Config.millisecond

end Sys2Proof.Machine
end

