-- ==== Sys2Proof/Machine/State.lean ====
section
/-! DEFINITION. The state of the BN16: every piece of state its chapters name, block by block, and the reset values
they state beside it. Plain data throughout. -/

namespace Sys2Proof.Machine

/-! ### Configuration store (R7, R9, R19) -/

/-- An edit: target and field, value, and the SEQ of the STAGE request that placed it (R9). -/
structure Edit where
  field : FieldRef
  value : Int
  seq : Byte
deriving DecidableEq, Repr

/-- A sealed batch (R19). -/
structure Batch where
  edits : List Edit
  epoch : Word16
deriving DecidableEq, Repr

structure ConfigStore where
  live : Configuration
  epoch : Word16
  staging : List Edit
  batch : Option Batch
deriving DecidableEq, Repr

/-! ### Scan engine (R26, R27, R48) -/

inductive RunState where
  | standby
  | arming
  | waiting
  | doze
  | settling
  | scanning
  | draining
deriving DecidableEq, Repr

inductive Mode where
  | free
  | triggered
deriving DecidableEq, Repr

/-- The scan timer (R31). Period and expiry are in µs of the model's clock (log entry 4). -/
inductive ScanTimer where
  | stopped
  | running (period next : Nat)
deriving DecidableEq, Repr

/-- A settle in progress with its expiry (R27, R30, R47). -/
inductive Settle where
  | arming (expiry : Nat)
  | wake (expiry : Nat)
deriving DecidableEq, Repr

/-- The trigger qualifier (R34): TIMING holds the edge and the required width read at it, in units of 10 µs. -/
inductive Qualifier where
  | idle
  | timing (edge : Edge) (width : Nat)
deriving DecidableEq, Repr

structure ScanCounters where
  started : Word32
  completed : Word32
  aborted : Word32
  overruns : Word32
  triggersMissed : Word32
deriving DecidableEq, Repr

structure ScanEngine where
  runState : RunState
  mode : Mode
  scanLimit : Nat
  scansSinceStart : Word32
  scanCounter : Word32
  timer : ScanTimer
  settle : Option Settle
  qualifier : Qualifier
  snapshot : Vector Int 16
  scanEpoch : Word16
  counters : ScanCounters
  sync : Level
deriving DecidableEq, Repr

/-! ### Conversion front end (R51, R53, R55, R62) -/

/-- The status of a conversion (R51). -/
inductive ConversionStatus where
  | openInput
  | saturated
  | valid
deriving DecidableEq, Repr

/-- What a reading came to (R55): its status, and its value when valid. -/
inductive Outcome where
  | openInput
  | saturated
  | valid (value : Int)
deriving DecidableEq, Repr

/-- A reading: the slot it came from and what it came to (R55, R56). -/
structure Reading where
  slot : Nat
  outcome : Outcome
deriving DecidableEq, Repr

inductive SlotPhase where
  | discard
  | count
deriving DecidableEq, Repr

/-- The slot in flight (R53). `endsAt` is the model's own: the time at which the conversion in flight ends (log entry 4). -/
structure SlotInFlight where
  number : Nat
  kind : SlotKind
  channel : Fin 16
  gain : Nat
  oversample : Nat
  group : Group
  phase : SlotPhase
  left : Nat
  sum : Int
  sawOpen : Bool
  sawSaturated : Bool
  endsAt : Nat
deriving DecidableEq, Repr

/-- Status flags of a result (R66). -/
structure StatusFlags where
  openInput : Bool
  saturated : Bool
  noValue : Bool
  clamped : Bool
deriving DecidableEq, Repr

/-- raw_mean, corrected and value, which are present together or absent together (R62). -/
structure Measured where
  rawMean : Int
  corrected : Int
  value : Int
deriving DecidableEq, Repr

/-- A channel result (R62). -/
structure ChannelResult where
  scanNumber : Word32
  epoch : Word16
  measured : Option Measured
  offsetUsed : Int
  measureCount : Nat
  referenceCount : Nat
  flags : StatusFlags
deriving DecidableEq, Repr

structure FrontEnd where
  slot : Option SlotInFlight
  measure : Vector (List Reading) 16
  reference : Vector (List Reading) 16
  results : Vector (Option ChannelResult) 16
deriving DecidableEq, Repr

/-! ### Excitation drivers (R58) -/

inductive DriverState where
  | off
  | on
  | tripped
deriving DecidableEq, Repr

structure Drivers where
  a : DriverState
  b : DriverState
deriving DecidableEq, Repr

/-! ### Offset tracker (R68, R69, R82) -/

inductive TrackerState where
  | off
  | hardPending
  | following
  | holding
  | continuous
deriving DecidableEq, Repr

inductive TriggerKind where
  | start
  | change
  | mode
  | hardThreshold
  | softThreshold
  | manual
deriving DecidableEq, Repr

structure TriggerMark where
  kind : TriggerKind
  scan : Word32
deriving DecidableEq, Repr

structure Tracker where
  state : TrackerState
  appliedOffset : Int
  window : List Int
  remaining : Nat
  lastEstimate : Option Int
  lastTrigger : Option TriggerMark
  triggerCount : Word32
deriving DecidableEq, Repr

/-! ### Report generator (R97, R98, R109, R110) -/

inductive Condition where
  | every (n : Nat)
  | deadband (d : Int)
  | limit (low high hysteresis : Int)
deriving DecidableEq, Repr

inductive Zone where
  | unknown
  | below
  | inside
  | above
deriving DecidableEq, Repr

structure Subscription where
  id : Nat
  channel : Fin 16
  condition : Condition
  withRaw : Bool
  withOffset : Bool
  scansCounted : Nat
  lastReported : Option Int
  zone : Zone
deriving DecidableEq, Repr

structure ReportRecord where
  subId : Nat
  channel : Fin 16
  scanNumber : Word32
  epoch : Word16
  flags : StatusFlags
  zone : Option Zone
  value : Option Int
  rawMean : Option Int
  offsetUsed : Option Int
deriving DecidableEq, Repr

/-! ### Report queue (R116, R117) -/

/-- A count of lost records with their span of scans: a nonzero loss tally, or a GAP entry (R117, R119). -/
structure Loss where
  count : Nat
  first : Word32
  last : Word32
deriving DecidableEq, Repr

inductive QueueEntry where
  | report (r : ReportRecord)
  | gap (g : Loss)
deriving DecidableEq, Repr

inductive Policy where
  | dropNewest
  | dropOldest
deriving DecidableEq, Repr

structure ReportCounters where
  created : Word32
  sent : Word32
  gapsSent : Word32
  lost : Word32
  discarded : Word32
deriving DecidableEq, Repr

structure ReportSide where
  queue : List QueueEntry
  tally : Option Loss
  policy : Policy
  credits : Nat
  counters : ReportCounters
deriving DecidableEq, Repr

/-! ### Alert unit (R131, R132) -/

inductive AlertKey where
  | scanOverrun
  | triggerMissed
  | reportLoss
  | linkError
  | excitationTrip (g : Group)
  | inputFault (n : Fin 16)
  | offsetAtLimit (n : Fin 16)
deriving DecidableEq, Repr

structure AlertEntry where
  key : AlertKey
  firstScan : Word32
  lastScan : Word32
  occurrences : Nat
deriving DecidableEq, Repr

structure AlertUnit where
  entries : List AlertEntry
  noticeOutstanding : Bool
deriving DecidableEq, Repr

/-! ### Serial link controller (R147) -/

inductive RxState where
  /-- Held inactive in reset and through start-up (R147, R162). -/
  | inactive
  | hunt
  | sync
  | header
  | body
  | check
  | wakeListen
  | wakeQuiet
deriving DecidableEq, Repr

/-- A frame in progress (R147, R149): what of LEN, SEQ and KIND has come, the body bytes, the running CRC, and the first CRC
byte once it has come. -/
structure RxFrame where
  len : Option Byte
  seq : Option Byte
  kind : Option Byte
  body : List Byte
  crc : Word16
  crcHigh : Option Byte
deriving DecidableEq, Repr

/-- A frame: one held for execution, or one in flight on TXD (R145). -/
structure Frame where
  seq : Byte
  kind : Byte
  body : List Byte
  crc : Word16
deriving DecidableEq, Repr

/-- A reply in the reply queue or in the duplicate memory (R158, R169). -/
structure Reply where
  seq : Byte
  kind : Byte
  body : List Byte
deriving DecidableEq, Repr

/-- The duplicate memory's contents (R157). -/
structure Remembered where
  seq : Byte
  kind : Byte
  crc : Word16
  reply : Reply
deriving DecidableEq, Repr

inductive Transmitter where
  | idle
  | sending (f : Frame)
deriving DecidableEq, Repr

inductive ResetCause where
  | power
  | line
  | request
deriving DecidableEq, Repr

inductive LinkRate where
  | bps115200
  | bps921600
deriving DecidableEq, Repr

structure LinkCounters where
  framesAccepted : Word32
  crcErrors : Word32
  lengthErrors : Word32
  charTimeouts : Word32
  rxOverflows : Word32
  wakeDiscards : Word32
  breaks : Word32
  duplicates : Word32
  noticesSent : Word32
deriving DecidableEq, Repr

structure Link where
  rxState : RxState
  rxFrame : Option RxFrame
  rxdLow : Bool
  /-- A start bit has come whose character has not ended (R143, R151, R165). -/
  startBit : Bool
  holding : List Frame
  memory : Option Remembered
  replies : List Reply
  transmitter : Transmitter
  readyNotice : Option ResetCause
  alertNotice : Bool
  noticeSeq : Byte
  resetCause : ResetCause
  resetTaken : Bool
  rate : LinkRate
  counters : LinkCounters
deriving DecidableEq, Repr

/-! ### The part -/

/-- Whether the part is held in reset, with the cause that reset will leave, starting up, or running (R162, R184). -/
inductive Phase where
  | inReset (cause : ResetCause)
  | startUp
  | running
deriving DecidableEq, Repr

inductive Session where
  | closed
  | opened
deriving DecidableEq, Repr

/-- The whole state. `pending` (the commands that wait, oldest first) and `now` (µs, log entry 4) are the model's own. -/
structure State where
  pending : List Instr
  now : Nat
  phase : Phase
  session : Session
  store : ConfigStore
  engine : ScanEngine
  frontEnd : FrontEnd
  drivers : Drivers
  trackers : Vector Tracker 16
  subs : List Subscription
  report : ReportSide
  alerts : AlertUnit
  link : Link
deriving DecidableEq, Repr

/-- No command of the BN16 stops the part: a refused request is a reply (R170) and a link error a counter (R164). -/
inductive Fault where
deriving DecidableEq, Repr

inductive Refusal where
  /-- Raised by exec for a row that has no meaning yet; safe. Every row has one, so it is not raised. -/
  | notModelled (mnemonic : String)
deriving DecidableEq, Repr

/-! ### Reset values -/

/-- R7, R9, R19. -/
def ConfigStore.reset : ConfigStore where
  live := .defaults
  epoch := 0
  staging := []
  batch := none

/-- R27, R38, R48. -/
def ScanEngine.reset : ScanEngine where
  runState := .standby
  mode := .free
  scanLimit := 0
  scansSinceStart := 0
  scanCounter := 0
  timer := .stopped
  settle := none
  qualifier := .idle
  snapshot := .replicate 16 0
  scanEpoch := 0
  counters := ⟨0, 0, 0, 0, 0⟩
  sync := .low

/-- R53. -/
def FrontEnd.reset : FrontEnd where
  slot := none
  measure := .replicate 16 []
  reference := .replicate 16 []
  results := .replicate 16 none

/-- R68. -/
def Tracker.reset : Tracker where
  state := .off
  appliedOffset := 0
  window := []
  remaining := 0
  lastEstimate := none
  lastTrigger := none
  triggerCount := 0

/-- R116. -/
def ReportSide.reset : ReportSide where
  queue := []
  tally := none
  policy := .dropNewest
  credits := 0
  counters := ⟨0, 0, 0, 0, 0⟩

/-- R147. The reset cause and the rate are those a reset's end sets; here those of log entries 10 and 11. -/
def Link.reset : Link where
  rxState := .inactive
  rxFrame := none
  rxdLow := false
  startBit := false
  holding := []
  memory := none
  replies := []
  transmitter := .idle
  readyNotice := none
  alertNotice := false
  noticeSeq := 0
  resetCause := .power
  resetTaken := false
  rate := .bps115200
  counters := ⟨0, 0, 0, 0, 0, 0, 0, 0, 0⟩

/-- The part right after a power-on reset has ended, its start-up begun (R162, R184; log entry 11). -/
def State.reset : State where
  pending := []
  now := 0
  phase := .startUp
  session := .closed
  store := .reset
  engine := .reset
  frontEnd := .reset
  drivers := ⟨.off, .off⟩
  trackers := .replicate 16 .reset
  subs := []
  report := .reset
  alerts := ⟨[], false⟩
  link := .reset

end Sys2Proof.Machine
end

