-- ==== Sys2Proof/Machine/Bytes.lean ====
section
/-! DEFINITION. Bytes of the link: big-endian quantities (R192), the CRC (R146) and the frame layout (R145, R193). -/

namespace Sys2Proof.Machine

/-- A quantity of one byte, unsigned (R192). -/
def byteOf (n : Nat) : Byte := BitVec.ofNat 8 n

/-- A quantity of two bytes, most significant first (R192). -/
def bytes2 (w : Word16) : List Byte := [w.extractLsb' 8 8, w.extractLsb' 0 8]

/-- A quantity of two bytes, given as a number. -/
def bytes2OfNat (n : Nat) : List Byte := bytes2 (BitVec.ofNat 16 n)

/-- A quantity of four bytes, most significant first (R192). -/
def bytes4 (w : Word32) : List Byte :=
  [w.extractLsb' 24 8, w.extractLsb' 16 8, w.extractLsb' 8 8, w.extractLsb' 0 8]

/-- A signed quantity of four bytes, two's complement (R192). -/
def bytesOfInt (v : Int) : List Byte := bytes4 (BitVec.ofInt 32 v)

/-- Two bytes read as an unsigned quantity, most significant first (R192). -/
def natOfBytes2 (b1 b0 : Byte) : Nat := (b1 ++ b0).toNat

/-- Four bytes read as a signed quantity, most significant first (R192). -/
def intOfBytes4 (b3 b2 b1 b0 : Byte) : Int := (b3 ++ b2 ++ b1 ++ b0).toInt

/-- A yes-or-no byte (R192). -/
def flagByte (b : Bool) : Byte := if b then 1 else 0

/-- One shift of the CRC register (R146). -/
def crcShift (reg : Word16) : Word16 :=
  if reg.msb then (reg <<< 1) ^^^ 0x1021#16 else reg <<< 1

/-- One covered byte into the CRC register (R146). -/
def crcByte (reg : Word16) (b : Byte) : Word16 :=
  Nat.repeat crcShift 8 (reg ^^^ (b ++ 0#8))

/-- The CRC register at the start of a frame (R146). -/
def crcStart : Word16 := 0xFFFF

/-- The CRC of a run of covered bytes (R146). -/
def crcOf (bs : List Byte) : Word16 := bs.foldl crcByte crcStart

/-- LEN of a body (R193). -/
def lenOf (body : List Byte) : Byte := byteOf body.length

/-- The bytes the CRC of a frame covers: LEN, SEQ, KIND and the body (R146). -/
def coveredBytes (seq kind : Byte) (body : List Byte) : List Byte := lenOf body :: seq :: kind :: body

/-- The frame the transmitter sends, with the CRC it computes (R146, R193). -/
def makeFrame (seq kind : Byte) (body : List Byte) : Frame :=
  ⟨seq, kind, body, crcOf (coveredBytes seq kind body)⟩

/-- The bytes of a frame on the line, in order (R145, R193). -/
def Frame.wire (f : Frame) : List Byte :=
  0xA5#8 :: 0x5A#8 :: (coveredBytes f.seq f.kind f.body ++ bytes2 f.crc)

end Sys2Proof.Machine
end

