-- ==== Sys2Proof/Machine/Operands.lean ====
section
/-! DEFINITION. What a frame carries: the kinds of request and their well-formed lengths (R167), the codes of single bytes
(R192), the statuses and the refused reply (R170), and the reading of request bodies (R171 to R191). -/

namespace Sys2Proof.Machine

/-! ### Request kinds (R167) -/

/-- The twenty kinds of request. -/
inductive RequestKind where
  | hello
  | getState
  | reset
  | stage
  | discard
  | seal
  | readConfig
  | start
  | stop
  | abort
  | retrack
  | readTracker
  | readResults
  | subscribe
  | unsubscribe
  | listSubscriptions
  | grant
  | ackAlerts
  | readAlerts
  | readCounters
deriving DecidableEq, Repr

/-- The KIND code of a request (R167). -/
def RequestKind.code : RequestKind → Byte
  | .hello => 0x01
  | .getState => 0x02
  | .reset => 0x03
  | .stage => 0x04
  | .discard => 0x05
  | .seal => 0x06
  | .readConfig => 0x07
  | .start => 0x08
  | .stop => 0x09
  | .abort => 0x0A
  | .retrack => 0x0B
  | .readTracker => 0x0C
  | .readResults => 0x0D
  | .subscribe => 0x0E
  | .unsubscribe => 0x0F
  | .listSubscriptions => 0x10
  | .grant => 0x11
  | .ackAlerts => 0x12
  | .readAlerts => 0x13
  | .readCounters => 0x14

def RequestKind.all : List RequestKind :=
  [.hello, .getState, .reset, .stage, .discard, .seal, .readConfig, .start, .stop, .abort, .retrack, .readTracker,
    .readResults, .subscribe, .unsubscribe, .listSubscriptions, .grant, .ackAlerts, .readAlerts, .readCounters]

/-- The request a KIND names, if it names one (R167). -/
def RequestKind.ofCode (b : Byte) : Option RequestKind := RequestKind.all.find? fun k => k.code = b

/-- Taken while the session is CLOSED (R166, R167). -/
def RequestKind.takenWhileClosed : RequestKind → Bool
  | .hello => true
  | .getState => true
  | .reset => true
  | _ => false

/-- The KIND of a reply (R169). -/
def RequestKind.replyCode (k : RequestKind) : Byte := k.code + 0x80

/-- The reply KIND to a frame whose KIND names no request (R169). -/
def unknownReplyCode : Byte := 0xFF

/-- The forms of ACK_ALERTS (R192). -/
def ackListForm : Byte := 0
def ackAllForm : Byte := 1

/-- The well-formed body lengths of each kind (R167). -/
def RequestKind.lengthOk (k : RequestKind) (body : List Byte) : Bool :=
  let n := body.length
  match k with
  | .hello => decide (n = 3)
  | .getState => decide (n = 0)
  | .reset => decide (n = 0)
  | .stage => decide (n % 6 = 0) && decide (6 ≤ n) && decide (n ≤ 192)
  | .discard => decide (n = 0)
  | .seal => decide (n = 0)
  | .readConfig => decide (n % 2 = 1) && decide (3 ≤ n) && decide (n ≤ 49)
  | .start => decide (n = 3)
  | .stop => decide (n = 0)
  | .abort => decide (n = 0)
  | .retrack => decide (2 ≤ n) && decide (n ≤ 17)
  | .readTracker => decide (1 ≤ n) && decide (n ≤ 4)
  | .readResults => decide (1 ≤ n) && decide (n ≤ 8)
  | .subscribe => decide (n = 16)
  | .unsubscribe => decide (n = 1)
  | .listSubscriptions => decide (n = 1)
  | .grant => decide (n = 1)
  | .ackAlerts =>
    match body with
    | [] => false
    | form :: keys =>
      (decide (form = ackAllForm) && decide (keys.length = 0)) ||
        (decide (form = ackListForm) && decide (1 ≤ keys.length) && decide (keys.length ≤ 38))
  | .readAlerts => decide (n = 1)
  | .readCounters => decide (n = 0)

/-! ### Codes of single bytes (R192) -/

def Session.code : Session → Byte
  | .closed => 0
  | .opened => 1

def RunState.code : RunState → Byte
  | .standby => 0
  | .arming => 1
  | .waiting => 2
  | .doze => 3
  | .settling => 4
  | .scanning => 5
  | .draining => 6

def Mode.code : Mode → Byte
  | .free => 0
  | .triggered => 1

def Mode.ofCode (b : Byte) : Option Mode := if b = 0 then some .free else if b = 1 then some .triggered else none

def DriverState.code : DriverState → Byte
  | .off => 0
  | .on => 1
  | .tripped => 2

def Policy.code : Policy → Byte
  | .dropNewest => 0
  | .dropOldest => 1

def Policy.ofCode (b : Byte) : Option Policy :=
  if b = 0 then some .dropNewest else if b = 1 then some .dropOldest else none

def ResetCause.code : ResetCause → Byte
  | .power => 0
  | .line => 1
  | .request => 2

/-- The outcome of SEAL (R186). -/
def sealAppliedCode : Byte := 0
def sealPendingCode : Byte := 1

/-- The views of READ_CONFIG, which are also its sources (R24). -/
inductive View where
  | live
  | staged
  | sealed
deriving DecidableEq, Repr

def View.code : View → Byte
  | .live => 0
  | .staged => 1
  | .sealed => 2

def View.ofCode (b : Byte) : Option View :=
  if b = 0 then some .live else if b = 1 then some .staged else if b = 2 then some .sealed else none

/-- The effect of RETRACK: HARD 0, SOFT 1 (R192). -/
def retrackEffectOfCode (b : Byte) : Option Response :=
  if b = 0 then some .hard else if b = 1 then some .soft else none

def Zone.code : Zone → Byte
  | .unknown => 0
  | .below => 1
  | .inside => 2
  | .above => 3

def TrackerState.code : TrackerState → Byte
  | .off => 0
  | .hardPending => 1
  | .following => 2
  | .holding => 3
  | .continuous => 4

def TriggerKind.code : TriggerKind → Byte
  | .start => 0
  | .change => 1
  | .mode => 2
  | .hardThreshold => 3
  | .softThreshold => 4
  | .manual => 5

/-- Condition kinds: EVERY 0, DEADBAND 1, LIMIT 2. -/
def Condition.code : Condition → Byte
  | .every _ => 0
  | .deadband _ => 1
  | .limit _ _ _ => 2

/-! ### Statuses and refusals (R170) -/

inductive Status where
  | ok
  | noSession
  | unknownKind
  | badLength
  | badTarget
  | badField
  | outOfRange
  | stagingFull
  | empty
  | batchPending
  | wrongState
  | inconsistent
  | idInUse
  | notFound
  | tableFull
deriving DecidableEq, Repr

def Status.code : Status → Byte
  | .ok => 0x00
  | .noSession => 0x01
  | .unknownKind => 0x02
  | .badLength => 0x03
  | .badTarget => 0x04
  | .badField => 0x05
  | .outOfRange => 0x06
  | .stagingFull => 0x07
  | .empty => 0x08
  | .batchPending => 0x09
  | .wrongState => 0x0A
  | .inconsistent => 0x0B
  | .idInUse => 0x0C
  | .notFound => 0x0D
  | .tableFull => 0x0E

/-- A refusal: the status, the check number and the index of R170. -/
structure Rejection where
  status : Status
  check : Nat
  index : Nat
deriving DecidableEq, Repr

/-- The index where there is no position or subject to give (R170). -/
def noIndex : Nat := 0xFF

/-- The body of a refused reply (R170). -/
def Rejection.body (r : Rejection) : List Byte := [r.status.code, byteOf r.check, byteOf r.index]

/-- The body of the reply to a request taken: OK and its contents (R169). -/
def okBody (contents : List Byte) : List Byte := Status.ok.code :: contents

/-! ### Reading bodies -/

/-- The channel a byte numbers, if it is not above 15. -/
def channelOfByte (b : Byte) : Option (Fin 16) := if h : b.toNat < 16 then some ⟨b.toNat, h⟩ else none

/-- The position of the first byte above `limit` in a list, if there is one. -/
def firstAbove (limit : Nat) (bs : List Byte) : Option Nat := bs.findIdx? fun b => decide (limit < b.toNat)

/-- An edit descriptor as received (R194). -/
structure RawEdit where
  target : Byte
  field : Byte
  value : Int
deriving DecidableEq, Repr

/-- The edit descriptors of a STAGE body, in request order (R187, R194). -/
def rawEdits : List Byte → List RawEdit
  | t :: f :: v3 :: v2 :: v1 :: v0 :: rest => ⟨t, f, intOfBytes4 v3 v2 v1 v0⟩ :: rawEdits rest
  | _ => []

/-- The items of a READ_CONFIG body after its view byte (R179). -/
def rawItems : List Byte → List (Byte × Byte)
  | t :: f :: rest => (t, f) :: rawItems rest
  | _ => []

/-- A SUBSCRIBE body (R190). -/
structure RawSubscription where
  id : Byte
  channel : Byte
  kind : Byte
  first : Int
  second : Int
  third : Int
  flags : Byte
deriving DecidableEq, Repr

def rawSubscription : List Byte → Option RawSubscription
  | [i, c, k, a3, a2, a1, a0, b3, b2, b1, b0, d3, d2, d1, d0, f] =>
    some ⟨i, c, k, intOfBytes4 a3 a2 a1 a0, intOfBytes4 b3 b2 b1 b0, intOfBytes4 d3 d2 d1 d0, f⟩
  | _ => none

end Sys2Proof.Machine
end

