-- ==== Sys2Proof/Machine/Flags.lean ====
section
/-! DEFINITION. Flags: alert keys and latches (R131, R133, R136), ALERT_N (R141), the status flags of a result and the presence
bits of records (R192, R194). -/

namespace Sys2Proof.Machine

/-! ### The alert set -/

/-- The key index (R131). -/
def AlertKey.index : AlertKey → Nat
  | .scanOverrun => 0
  | .triggerMissed => 1
  | .reportLoss => 2
  | .linkError => 3
  | .excitationTrip .a => 4
  | .excitationTrip .b => 5
  | .inputFault n => 6 + n.val
  | .offsetAtLimit n => 22 + n.val

/-- The largest key index (R131). -/
def maxKeyIndex : Nat := 37

/-- The alert set with a key recorded at a scan counter value (R133), kept in ascending key index (R132). -/
def latchInto (k : AlertKey) (scan : Word32) : List AlertEntry → List AlertEntry
  | [] => [⟨k, scan, scan, 1⟩]
  | e :: es =>
    if e.key = k then { e with lastScan := scan, occurrences := min (e.occurrences + 1) Config.saturation } :: es
    else if k.index < e.key.index then ⟨k, scan, scan, 1⟩ :: e :: es
    else e :: latchInto k scan es

/-- An ALERT notice is placed in the alert position and notice_outstanding is set (R136). -/
def State.placeAlert (s : State) : State :=
  { s with alerts := { s.alerts with noticeOutstanding := true }, link := { s.link with alertNotice := true } }

/-- A latch (R133): the entry, and a notice if notice_outstanding was clear (R136). -/
def State.latch (k : AlertKey) (s : State) : State :=
  let s1 := { s with alerts := { s.alerts with entries := latchInto k s.engine.scanCounter s.alerts.entries } }
  if s.alerts.noticeOutstanding then s1 else s1.placeAlert

/-- Several latches raised by one event, "each is handled in turn" (R131). -/
def State.latchAll (ks : List AlertKey) (s : State) : State := ks.foldl (fun s k => s.latch k) s

/-- notice_outstanding is cleared and a waiting ALERT notice is withdrawn (R137, R138). -/
def State.withdrawAlert (s : State) : State :=
  { s with alerts := { s.alerts with noticeOutstanding := false }, link := { s.link with alertNotice := false } }

/-- A new ALERT notice is placed if the set is nonempty (R137, R138). -/
def State.renewAlert (s : State) : State := if s.alerts.entries = [] then s else s.placeAlert

/-- The level of ALERT_N (R141), which "follows each change of either at the moment it occurs". -/
def State.alertN (s : State) : Level :=
  if s.alerts.entries ≠ [] ∧ s.store.live.device.alertLine = true then .low else .high

/-- An alert entry in full form (R196). -/
def AlertEntry.full (e : AlertEntry) : List Byte :=
  byteOf e.key.index :: (bytes4 e.firstScan ++ bytes4 e.lastScan ++ bytes2OfNat e.occurrences)

/-- An alert entry in short form (R196). -/
def AlertEntry.short (e : AlertEntry) : List Byte := byteOf e.key.index :: bytes2OfNat e.occurrences

/-! ### Flag bytes (R192) -/

/-- A byte with the given bits, bit 0 first. -/
def bitsByte (b0 b1 b2 b3 : Bool) : Byte :=
  byteOf ((if b0 then 1 else 0) + (if b1 then 2 else 0) + (if b2 then 4 else 0) + (if b3 then 8 else 0))

/-- The status flags byte: bit 0 OPEN, bit 1 SATURATED, bit 2 NO_VALUE, bit 3 CLAMPED. -/
def StatusFlags.byte (f : StatusFlags) : Byte := bitsByte f.openInput f.saturated f.noValue f.clamped

/-- The content flags byte: bit 0 WITH_RAW, bit 1 WITH_OFFSET. -/
def contentFlags (withRaw withOffset : Bool) : Byte := bitsByte withRaw withOffset false false

/-- The presence byte of a report record (R194). -/
def ReportRecord.presence (r : ReportRecord) : Byte :=
  bitsByte r.zone.isSome r.value.isSome r.rawMean.isSome r.offsetUsed.isSome

end Sys2Proof.Machine
end

