-- ==== Sys2Proof/Machine/ReportQueue.lean ====
section
/-! DEFINITION. The report queue: arrivals and losses (R118 to R121), the offer (R123), the departure (R124) and the bodies of its
notices (R194, R195). -/

namespace Sys2Proof.Machine

/-- A loss added to the tally: a lost record, or a GAP entry merged into it (R119). -/
def tallyAdd (tally : Option Loss) (l : Loss) : Loss :=
  match tally with
  | none => l
  | some t => { t with count := min (t.count + l.count) Config.saturation, last := l.last }

/-- The loss one record makes (R119). -/
def ReportRecord.loss (r : ReportRecord) : Loss := ⟨1, r.scanNumber, r.scanNumber⟩

/-- A record reaches a queue that holds 48 entries (R120, R121). -/
def ReportSide.overflow (r : ReportRecord) (q : ReportSide) : ReportSide :=
  match q.policy with
  | .dropNewest =>
    { q with tally := some (tallyAdd q.tally r.loss), counters := { q.counters with lost := q.counters.lost + 1 } }
  | .dropOldest =>
    match q.queue with
    | [] => { q with queue := [.report r] }
    | .report h :: rest =>
      { q with
        queue := rest ++ [.report r]
        tally := some (tallyAdd q.tally h.loss)
        counters := { q.counters with lost := q.counters.lost + 1 } }
    | .gap g :: rest => { q with queue := rest ++ [.report r], tally := some (tallyAdd q.tally g) }

/-- Whether the queue holds 48 entries (R117). -/
def ReportSide.full (q : ReportSide) : Bool := decide (Config.queueEntries ≤ q.queue.length)

/-- An arrival (R118). -/
def ReportSide.arrive (r : ReportRecord) (q : ReportSide) : ReportSide :=
  let q1 := { q with counters := { q.counters with created := q.counters.created + 1 } }
  if q.full then q1.overflow r else { q1 with queue := q.queue ++ [.report r] }

/-- What the report side offers the transmitter (R123). -/
inductive Offer where
  | tallyGap (g : Loss)
  | head (e : QueueEntry)
deriving DecidableEq, Repr

/-- The state of the report side makes a notice to offer (R123). -/
def ReportSide.offer (q : ReportSide) : Option Offer :=
  if q.credits = 0 then none
  else
    match q.policy, q.tally with
    | .dropOldest, some t => some (.tallyGap t)
    | _, _ => q.queue.head?.map .head

/-- A sent entry's counter (R124). -/
def ReportCounters.countSent (c : ReportCounters) : QueueEntry → ReportCounters
  | .report _ => { c with sent := c.sent + 1 }
  | .gap _ => { c with gapsSent := c.gapsSent + 1 }

/-- The beginning of an offered notice's transmission (R124). -/
def ReportSide.depart (o : Offer) (q : ReportSide) : ReportSide :=
  match o with
  | .tallyGap _ =>
    { q with
      credits := q.credits - 1
      tally := none
      counters := { q.counters with gapsSent := q.counters.gapsSent + 1 } }
  | .head e =>
    let q1 := { q with credits := q.credits - 1, queue := q.queue.tail, counters := q.counters.countSent e }
    match q.policy, q.tally with
    | .dropNewest, some t => { q1 with queue := q1.queue ++ [.gap t], tally := none }
    | _, _ => q1

/-- The number of REPORT entries held (R127, R128). -/
def ReportSide.reports (q : ReportSide) : Nat := q.queue.countP fun e => match e with
  | .report _ => true
  | .gap _ => false

/-- HELLO's effect on the report side (R127). -/
def ReportSide.reopen (policy : Policy) (credits : Nat) (q : ReportSide) : ReportSide where
  queue := []
  tally := none
  policy := policy
  credits := credits
  counters := { q.counters with discarded := q.counters.discarded + BitVec.ofNat 32 q.reports }

/-- The bytes of a field that may be absent (R194). -/
def presentBytes (v : Option Int) : List Byte :=
  match v with
  | none => []
  | some x => bytesOfInt x

/-- The body of a REPORT notice (R194). -/
def ReportRecord.body (r : ReportRecord) : List Byte :=
  byteOf r.subId :: byteOf r.channel.val ::
    (bytes4 r.scanNumber ++ bytes2 r.epoch ++ [r.flags.byte, r.presence] ++
      (match r.zone with
        | none => []
        | some z => [z.code]) ++
      presentBytes r.value ++ presentBytes r.rawMean ++ presentBytes r.offsetUsed)

/-- The body of a GAP notice (R195). -/
def Loss.body (l : Loss) : List Byte := bytes2OfNat l.count ++ bytes4 l.first ++ bytes4 l.last

/-- KIND codes of notices (R145). -/
def readyKind : Byte := 0xC0
def reportKind : Byte := 0xC1
def gapKind : Byte := 0xC2
def alertKind : Byte := 0xC3

/-- KIND and body of an offered notice (R124). -/
def Offer.notice : Offer → Byte × List Byte
  | .tallyGap g => (gapKind, g.body)
  | .head (.report r) => (reportKind, r.body)
  | .head (.gap g) => (gapKind, g.body)

end Sys2Proof.Machine
end

