-- ==== Sys2Proof/Machine/Reports.lean ====
section
/-! DEFINITION. The report generator: the evaluation of one subscription entry against a channel result (R104 to R108) and the
record it creates (R109, R110). -/

namespace Sys2Proof.Machine

/-- The next zone of a LIMIT entry (R108): the first row of its table that applies. -/
def nextZone (low high hysteresis : Int) (z : Zone) (v : Int) : Zone :=
  match z with
  | .unknown => if v > high then .above else if v < low then .below else .inside
  | .inside => if v > high then .above else if v < low then .below else .inside
  | .above => if v < low then .below else if v ≤ high - hysteresis then .inside else .above
  | .below => if v > high then .above else if v ≥ low + hysteresis then .inside else .below

/-- The record an entry creates from a result (R109, R110); `zone` is the next zone of a LIMIT entry. -/
def Subscription.makeRecord (e : Subscription) (r : ChannelResult) (zone : Option Zone) : ReportRecord where
  subId := e.id
  channel := e.channel
  scanNumber := r.scanNumber
  epoch := r.epoch
  flags := r.flags
  zone := zone
  value := r.measured.map (·.value)
  rawMean := if e.withRaw then r.measured.map (·.rawMean) else none
  offsetUsed := if e.withOffset then some r.offsetUsed else none

/-- The entry after its evaluation, and the record it creates, if any (R105 to R107). -/
def Subscription.evaluate (e : Subscription) (r : ChannelResult) : Subscription × Option ReportRecord :=
  match e.condition with
  | .every n =>
    if e.scansCounted + 1 = n then ({ e with scansCounted := 0 }, some (e.makeRecord r none))
    else ({ e with scansCounted := e.scansCounted + 1 }, none)
  | .deadband d =>
    match r.measured with
    | none => (e, none)
    | some m =>
      match e.lastReported with
      | none => ({ e with lastReported := some m.value }, some (e.makeRecord r none))
      | some last =>
        if d ≤ ((m.value - last).natAbs : Int) then
          ({ e with lastReported := some m.value }, some (e.makeRecord r none))
        else (e, none)
  | .limit low high hysteresis =>
    match r.measured with
    | none => (e, none)
    | some m =>
      let z := nextZone low high hysteresis e.zone m.value
      if z = e.zone then (e, none) else ({ e with zone := z }, some (e.makeRecord r (some z)))

/-- An entry held against the table: skipped where its channel has "no result" (R104). -/
def Subscription.step (results : Vector (Option ChannelResult) 16) (e : Subscription) :
    Subscription × Option ReportRecord :=
  match results[e.channel] with
  | none => (e, none)
  | some r => e.evaluate r

end Sys2Proof.Machine
end

