-- ==== Sys2Proof/Machine/Tracker.lean ====
section
/-! DEFINITION. One tracker record: window and estimate (R71, R72), updates (R73 to R75), the work of a completion (R76 to R81),
triggers (R82 to R86) and the consequences of applying a batch (R89 to R92). Each function answers the record and whether
a clamp changed the value it was given, which latches OFFSET_AT_LIMIT (R70). -/

namespace Sys2Proof.Machine

/-- What an event leaves of a record, and whether a clamp changed a value in it. -/
structure TrackerResult where
  record : Tracker
  clamped : Bool
deriving DecidableEq, Repr

/-- A value clamped to ±m (R70). -/
def clampTo (m : Nat) (v : Int) : Int := if v > (m : Int) then m else if v < -(m : Int) then -(m : Int) else v

/-- The newest eight values of a list, oldest first (R71). -/
def newest (vs : List Int) : List Int := vs.drop (vs.length - Config.windowValues)

/-- Values enter a window at its tail, the oldest leaving beyond eight (R71). -/
def pushWindow (window values : List Int) : List Int := newest (window ++ values)

/-- The trimmed mean of a window (R72). An empty window gives no estimate; the tracker asks for none (log entry 19). -/
def estimate (window : List Int) : Int :=
  let n := window.length
  let k := n / 4
  (((window.insertionSort (· ≤ ·)).drop k).take (n - 2 * k)).sum.tdiv ((n - 2 * k : Nat) : Int)

/-- A trigger taken: last_trigger and trigger_count (R82). -/
def Tracker.mark (kind : TriggerKind) (scan : Word32) (t : Tracker) : Tracker :=
  { t with lastTrigger := some ⟨kind, scan⟩, triggerCount := t.triggerCount + 1 }

/-- The follow-up of a direct application (R75). -/
def Tracker.followUp (followScans : Nat) (t : Tracker) : Tracker :=
  if followScans = 0 then { t with remaining := 0, state := .holding }
  else if followScans = Config.followContinuous then { t with remaining := 0, state := .continuous }
  else { t with remaining := followScans, state := .following }

/-- A direct application of an estimate (R73). -/
def Tracker.direct (cfg : ChannelConfig) (est : Int) (t : Tracker) : TrackerResult :=
  let v := clampTo cfg.maxCorrection est
  ⟨{ t with appliedOffset := v }.followUp cfg.followScans, decide (v ≠ est)⟩

/-- The value a filtered update moves to, before its clamp (R74). -/
def filteredValue (weight : Nat) (est applied : Int) : Int := applied + ((est - applied) * weight).tdiv 16

/-- A filtered update toward an estimate (R74). -/
def Tracker.filtered (cfg : ChannelConfig) (est : Int) (t : Tracker) : TrackerResult :=
  let u := filteredValue cfg.weight est t.appliedOffset
  let v := clampTo cfg.maxCorrection u
  ⟨{ t with appliedOffset := v }, decide (v ≠ u)⟩

/-- The hard and the soft threshold test (R77). -/
def hardBreached (cfg : ChannelConfig) (distance : Nat) : Bool :=
  decide (cfg.hardThreshold ≠ Config.thresholdOff) && decide (cfg.hardThreshold < distance)

def softBreached (cfg : ChannelConfig) (distance : Nat) : Bool :=
  decide (cfg.softThreshold ≠ Config.thresholdOff) && decide (cfg.softThreshold < distance)

/-- remaining counts down by one, and at 0 the state is HOLDING, else FOLLOWING (R79, R85). -/
def Tracker.countDown (t : Tracker) : Tracker :=
  { t with remaining := t.remaining - 1, state := if t.remaining - 1 = 0 then .holding else .following }

/-- The follow count a soft trigger sets (R85, R86). -/
def softFollow (followScans : Nat) : Nat := if followScans = 0 then 1 else followScans

/-- A threshold-caused hard trigger: the window replaced by the scan's readings, and their estimate applied (R84). -/
def Tracker.thresholdHard (cfg : ChannelConfig) (kind : TriggerKind) (scan : Word32) (values : List Int)
    (t : Tracker) : TrackerResult :=
  let w := newest values
  let est := estimate w
  { t.mark kind scan with window := w, lastEstimate := some est }.direct cfg est

/-- A soft threshold trigger: follow_scans updates, the first of them now (R85). -/
def Tracker.thresholdSoft (cfg : ChannelConfig) (scan : Word32) (est : Int) (t : Tracker) : TrackerResult :=
  let r := { t.mark .softThreshold scan with remaining := softFollow cfg.followScans }.filtered cfg est
  ⟨r.record.countDown, r.clamped⟩

/-- The work of a completion on a channel whose valid reference readings are `values` (R76 to R81). -/
def Tracker.complete (cfg : ChannelConfig) (scan : Word32) (values : List Int) (t : Tracker) : TrackerResult :=
  if values = [] then ⟨t, false⟩
  else
    let w := pushWindow t.window values
    let est := estimate w
    let t1 := { t with window := w, lastEstimate := some est }
    let distance := (est - t.appliedOffset).natAbs
    match t.state with
    | .off => ⟨t, false⟩
    | .hardPending => t1.direct cfg est
    | .holding =>
      if hardBreached cfg distance then t1.thresholdHard cfg .hardThreshold scan values
      else if softBreached cfg distance then
        match cfg.thresholdResponse with
        | .hard => t1.thresholdHard cfg .softThreshold scan values
        | .soft => t1.thresholdSoft cfg scan est
      else ⟨t1, false⟩
    | .following =>
      if hardBreached cfg distance then t1.thresholdHard cfg .hardThreshold scan values
      else
        let r := t1.filtered cfg est
        ⟨r.record.countDown, r.clamped⟩
    | .continuous =>
      if hardBreached cfg distance then t1.thresholdHard cfg .hardThreshold scan values
      else t1.filtered cfg est

/-- A hard trigger taken outside a completion (R83). -/
def Tracker.hardTrigger (kind : TriggerKind) (scan : Word32) (t : Tracker) : Tracker :=
  { t.mark kind scan with window := [], remaining := 0, state := .hardPending }

/-- A MANUAL soft trigger that finds the record in a state, and whether it is taken (R86). A record that is OFF is not
triggered, its channel being FIXED (R94). -/
def Tracker.softTrigger (followScans : Nat) (scan : Word32) (t : Tracker) : Tracker × Bool :=
  match t.state with
  | .holding => ({ t.mark .manual scan with remaining := softFollow followScans, state := .following }, true)
  | .following => ({ t.mark .manual scan with remaining := softFollow followScans }, true)
  | .continuous => (t.mark .manual scan, true)
  | .hardPending => (t, false)
  | .off => (t, false)

/-! ### Consequences of applying a batch (R89), each judged on the configuration after it -/

/-- Step 1: a change of zero_mode, or of fixed_offset on a FIXED channel (R90). -/
def Tracker.modeStep (old new : ChannelConfig) (t : Tracker) : Tracker :=
  match old.zeroMode, new.zeroMode with
  | .track, .fixed =>
    { t with state := .off, window := [], remaining := 0, lastEstimate := none, appliedOffset := new.fixedOffset }
  | .fixed, .fixed => if old.fixedOffset = new.fixedOffset then t else { t with appliedOffset := new.fixedOffset }
  | .fixed, .track => t
  | .track, .track => t

/-- Step 2: a TRACK channel's applied offset is clamped to the live max_correction (R91, log entry 18). -/
def Tracker.clampStep (new : ChannelConfig) (t : Tracker) : TrackerResult :=
  match new.zeroMode with
  | .fixed => ⟨t, false⟩
  | .track =>
    let v := clampTo new.maxCorrection t.appliedOffset
    ⟨{ t with appliedOffset := v }, decide (v ≠ t.appliedOffset)⟩

/-- Step 3: a change of follow_scans (R92). -/
def Tracker.followStep (old new : ChannelConfig) (t : Tracker) : Tracker :=
  if old.followScans = new.followScans then t
  else
    match t.state with
    | .holding => if new.followScans = Config.followContinuous then { t with state := .continuous } else t
    | .following =>
      if new.followScans = Config.followContinuous then { t with state := .continuous, remaining := 0 }
      else if new.followScans < t.remaining then
        { t with remaining := new.followScans, state := if new.followScans = 0 then .holding else .following }
      else t
    | .continuous =>
      if new.followScans = Config.followContinuous then t else { t with state := .holding, remaining := 0 }
    | .hardPending => t
    | .off => t

/-- The trigger an application takes on a channel: MODE, else CHANGE, else none (R88). `levelChanged` says whether the
level of the group it belongs to after the application changes. -/
def appliedTrigger (old new : ChannelConfig) (levelChanged : Bool) : Option TriggerKind :=
  if old.zeroMode = .fixed ∧ new.zeroMode = .track then some .mode
  else if new.enabled = true ∧ new.zeroMode = .track ∧ new.changeTrigger = true ∧
      (old.gain ≠ new.gain ∨ old.oversample ≠ new.oversample ∨ old.exciteGroup ≠ new.exciteGroup ∨
        old.enabled = false ∨ levelChanged = true) then some .change
  else none

/-- Steps 1 to 4 on one record (R89). -/
def Tracker.applied (old new : ChannelConfig) (levelChanged : Bool) (scan : Word32) (t : Tracker) : TrackerResult :=
  let r := (t.modeStep old new).clampStep new
  let t3 := r.record.followStep old new
  match appliedTrigger old new levelChanged with
  | some kind => ⟨t3.hardTrigger kind scan, r.clamped⟩
  | none => ⟨t3, r.clamped⟩

end Sys2Proof.Machine
end

