-- ==== Sys2Proof/Machine/FrontEnd.lean ====
section
/-! DEFINITION. The front end: the status of a conversion (R51), the slot in flight (R54), readings (R55), channel results (R62 to
R66) and the readings handed to the tracker (R57). -/

namespace Sys2Proof.Machine

def Drivers.get (d : Drivers) : Group → DriverState
  | .a => d.a
  | .b => d.b

def Drivers.put (d : Drivers) (v : DriverState) : Group → Drivers
  | .a => { d with a := v }
  | .b => { d with b := v }

/-- The status of a conversion (R51). A driver that was not ON at some moment of the conversion is not ON at its end
(R52, R59, log entry 13). -/
def conversionStatus (driver : DriverState) (senseGood : Bool) (code : Int) : ConversionStatus :=
  if driver ≠ .on ∨ senseGood = false then .openInput
  else if code = Config.codeMin ∨ code = Config.codeMax then .saturated
  else .valid

/-- COUNT begins with oversample conversions left (R54). -/
def SlotInFlight.enterCount (sl : SlotInFlight) : SlotInFlight := { sl with phase := .count, left := sl.oversample }

/-- A slot is created for the plan's slot `i`, its first conversion ending at `endsAt` (R39, R54). -/
def beginSlot (c : Configuration) (i : Nat) (sl : SlotConfig) (endsAt : Nat) : SlotInFlight :=
  let ch := c.channels[sl.channel]
  let slot : SlotInFlight :=
    { number := i, kind := sl.kind, channel := sl.channel, gain := ch.gain, oversample := ch.oversample,
      group := ch.exciteGroup, phase := .discard, left := sl.discards, sum := 0, sawOpen := false,
      sawSaturated := false, endsAt := endsAt }
  if sl.discards = 0 then slot.enterCount else slot

/-- A counted conversion added to the slot (R54). -/
def SlotInFlight.counted (status : ConversionStatus) (code : Int) (sl : SlotInFlight) : SlotInFlight :=
  match status with
  | .openInput => { sl with sawOpen := true }
  | .saturated => { sl with sawSaturated := true }
  | .valid => { sl with sum := sl.sum + code }

/-- What the counted conversions of a slot come to (R55). -/
def SlotInFlight.outcome (sl : SlotInFlight) : Outcome :=
  if sl.sawOpen then .openInput
  else if sl.sawSaturated then .saturated
  else .valid (sl.sum.tdiv sl.oversample)

def SlotInFlight.reading (sl : SlotInFlight) : Reading := ⟨sl.number, sl.outcome⟩

/-- The conversion in flight has ended: the slot goes on, its next conversion ending 200 µs later, or it has made its last
counted conversion (R54). -/
def SlotInFlight.advance (status : ConversionStatus) (code : Int) (sl : SlotInFlight) : SlotInFlight × Bool :=
  let sl1 := { sl with endsAt := sl.endsAt + Config.conversionTime }
  match sl.phase with
  | .discard => if sl.left ≤ 1 then (sl1.enterCount, false) else ({ sl1 with left := sl.left - 1 }, false)
  | .count => ({ sl1.counted status code with left := sl.left - 1 }, decide (sl.left ≤ 1))

/-! ### Readings and results -/

def Reading.value? (r : Reading) : Option Int :=
  match r.outcome with
  | .valid v => some v
  | .openInput => none
  | .saturated => none

/-- The values of the valid readings of a list, in slot order (R57, R64). -/
def validValues (rs : List Reading) : List Int := rs.filterMap Reading.value?

/-- corrected and value are clamped to ±8388607 (R64, R65). -/
def clampValue (v : Int) : Int :=
  if v > Config.valueLimit then Config.valueLimit else if v < -Config.valueLimit then -Config.valueLimit else v

/-- raw_mean (R64). -/
def rawMean (values : List Int) : Int := values.sum.tdiv values.length

/-- corrected before its clamp (R64), and value before its clamp (R65). -/
def correctedOf (raw offset : Int) : Int := raw - offset

def scaledOf (corrected scale : Int) : Int := (corrected * scale).tdiv 16384

/-- A channel's result at a completion (R63 to R66). -/
def channelResult (cfg : ChannelConfig) (scan : Word32) (epoch : Word16) (offset : Int)
    (measure reference : List Reading) : ChannelResult :=
  let values := validValues measure
  let raw := rawMean values
  let diff := correctedOf raw offset
  let corrected := clampValue diff
  let quotient := scaledOf corrected cfg.scale
  let value := clampValue quotient
  let absent := values.isEmpty
  let all := measure ++ reference
  { scanNumber := scan
    epoch := epoch
    measured := if absent then none else some ⟨raw, corrected, value⟩
    offsetUsed := offset
    measureCount := values.length
    referenceCount := (validValues reference).length
    flags :=
      { openInput := all.any fun r => decide (r.outcome = .openInput)
        saturated := all.any fun r => decide (r.outcome = .saturated)
        noValue := absent
        clamped := !absent && (decide (corrected ≠ diff) || decide (value ≠ quotient)) } }

/-- A result's record latches INPUT_FAULT (R66). -/
def faulty (r : Option ChannelResult) : Bool :=
  match r with
  | none => false
  | some x => x.flags.openInput || x.flags.saturated

end Sys2Proof.Machine
end

