-- ==== Sys2Proof/Machine/Ops.lean ====
section
/-! DEFINITION. The operations the commands share: resets (R162, R184), the request executor (R156 to R158, R168), the application of a
batch (R20, R21), scan start (R36), entry into STANDBY (R44), the wake from DOZE (R46), link errors (R164) and the arbiter's
choice (R159). -/

namespace Sys2Proof.Machine

/-! ### Resets -/

/-- RATE as sampled at the end of a reset (R143). -/
def rateOfLevel : Level → LinkRate
  | .low => .bps115200
  | .high => .bps921600

/-- Every block takes its reset values (R184); the commands that wait are not the part's. The reset cause and the rate are
those of the last reset's end until this reset ends (R147). -/
def State.blocksReset (phase : Phase) (s : State) : State :=
  { State.reset with
    pending := s.pending
    phase := phase
    link := { Link.reset with resetCause := s.link.resetCause, rate := s.link.rate } }

/-- A reset ends: its cause is set, RATE is sampled and start-up begins (R162). -/
def State.resetEnds (cause : ResetCause) (rate : Level) (s : State) : State :=
  { s with phase := .startUp, link := { s.link with resetCause := cause, rate := rateOfLevel rate } }

/-- The reset a RESET request asks for, which "ends at once" (R162, R163). -/
def State.requestedReset (rate : Level) (s : State) : State := (s.blocksReset .startUp).resetEnds .request rate

/-- A reply, or the frame that carries it, is the reply of a RESET that was taken (log entry 20). -/
def isResetReply (kind : Byte) (body : List Byte) : Bool :=
  decide (kind = RequestKind.reset.replyCode) && decide (body = okBody [])

/-! ### The request executor -/

/-- The executor may take a frame (R156). -/
def State.executorReady (s : State) : Bool :=
  decide (s.phase = .running) && decide (s.link.replies.length < Config.holdingFrames) && !s.link.resetTaken

/-- A frame equal in SEQ, KIND and CRC to the last request executed (R157). -/
def Link.isDuplicate (l : Link) (f : Frame) : Bool :=
  match l.memory with
  | none => false
  | some m => decide (m.seq = f.seq) && decide (m.kind = f.kind) && decide (m.crc = f.crc)

/-- The frame the executor takes next, if it takes one (R156). -/
def State.frameToTake (s : State) : Option Frame := if s.executorReady then s.link.holding.head? else none

/-- Taking the frame removes it from the holding (R156). -/
def State.takeHead (s : State) : State := { s with link := { s.link with holding := s.link.holding.tail } }

/-- The reply is appended to the reply queue (R156). -/
def State.queueReply (r : Reply) (s : State) : State := { s with link := { s.link with replies := s.link.replies ++ [r] } }

/-- The end of an execution: the reply is queued and the duplicate memory takes the request (R157, R168). -/
def State.answer (f : Frame) (kind : Byte) (body : List Byte) (s : State) : State :=
  let r : Reply := ⟨f.seq, kind, body⟩
  let s1 := s.queueReply r
  { s1 with link := { s1.link with memory := some ⟨f.seq, f.kind, f.crc, r⟩ } }

/-- A refused request (R170). -/
def State.refuse (k : RequestKind) (f : Frame) (r : Rejection) (s : State) : State := s.answer f k.replyCode r.body

/-- A request taken (R169). -/
def State.accept (k : RequestKind) (f : Frame) (contents : List Byte) (s : State) : State :=
  s.answer f k.replyCode (okBody contents)

/-- The session is OPEN, or the request is one taken while it is CLOSED (R168). -/
def State.sessionAllows (k : RequestKind) (s : State) : Bool := decide (s.session = .opened) || k.takenWhileClosed

/-- A frame of kind `k` is executed: the common checks 2 and 3 (R168), then the request's own part `own`. -/
def State.runRequest (k : RequestKind) (own : Frame → State → State) (f : Frame) (s : State) : State :=
  if s.sessionAllows k = false then s.refuse k f ⟨.noSession, 0, noIndex⟩
  else if k.lengthOk f.body = false then s.refuse k f ⟨.badLength, 0, noIndex⟩
  else own f s

/-- The executor takes a frame of kind `k` that is not a duplicate and executes it. Where the frame it would take is not such
a one, this is not the step that comes about, and nothing changes (log entry 2). -/
def State.execute (k : RequestKind) (own : Frame → State → State) (s : State) : State :=
  match s.frameToTake with
  | none => s
  | some f =>
    if s.link.isDuplicate f = false ∧ RequestKind.ofCode f.kind = some k then s.takeHead.runRequest k own f else s

/-! ### Drivers (R59) -/

def DriverState.start (level : ExciteLevel) (_d : DriverState) : DriverState := if level = .off then .off else .on

/-- Entry into STANDBY or DOZE. -/
def DriverState.rest (d : DriverState) : DriverState := if d = .on then .off else d

/-- Wake from DOZE, or entry into SETTLING. -/
def DriverState.wake (level : ExciteLevel) (d : DriverState) : DriverState :=
  if d = .off ∧ level ≠ .off then .on else d

def State.driversStart (s : State) : State :=
  { s with drivers := ⟨s.drivers.a.start (s.store.live.device.level .a), s.drivers.b.start (s.store.live.device.level .b)⟩ }

def State.driversRest (s : State) : State := { s with drivers := ⟨s.drivers.a.rest, s.drivers.b.rest⟩ }

def State.driversWake (s : State) : State :=
  { s with drivers := ⟨s.drivers.a.wake (s.store.live.device.level .a), s.drivers.b.wake (s.store.live.device.level .b)⟩ }

/-! ### Applying a batch -/

/-- Edits applied in list order (R13, R20). -/
def Configuration.applyEdits (c : Configuration) (es : List Edit) : Configuration :=
  es.foldl (fun c e => c.put e.value e.field) c

/-- The epoch that follows (R18). -/
def nextEpoch (e : Word16) : Word16 := if e = 65535#16 then 1 else e + 1

/-- The epoch of the sealed batch, 0 when there is none (R174, R179). -/
def ConfigStore.batchEpoch (c : ConfigStore) : Word16 :=
  match c.batch with
  | none => 0
  | some b => b.epoch

/-- The level of the group a channel belongs to after the application differs from before (R88). -/
def levelChanged (old new : Configuration) (n : Fin 16) : Bool :=
  let g := new.channels[n].exciteGroup
  decide (old.device.level g ≠ new.device.level g)

/-- What an application makes of channel `n`'s tracker record (R89). -/
def trackerApplied (old new : Configuration) (scan : Word32) (ts : Vector Tracker 16) (n : Fin 16) : TrackerResult :=
  ts[n].applied old.channels[n] new.channels[n] (levelChanged old new n) scan

/-- The keys of the channels whose clamp changed a value, in ascending order (R70). -/
def clampKeys (f : Fin 16 → TrackerResult) : List AlertKey :=
  ((List.finRange 16).filter fun n => (f n).clamped).map .offsetAtLimit

/-- The qualifier after an application: IDLE where it changes trigger_edge or trigger_min_width (R34). -/
def Qualifier.applied (old new : DeviceConfig) (q : Qualifier) : Qualifier :=
  if old.triggerEdge ≠ new.triggerEdge ∨ old.triggerMinWidth ≠ new.triggerMinWidth then .idle else q

/-- A batch is applied whole, with its consequences (R20, R21). -/
def State.applyBatch (b : Batch) (s : State) : State :=
  let old := s.store.live
  let new := old.applyEdits b.edits
  let f := trackerApplied old new s.engine.scanCounter s.trackers
  { s with
    store := { s.store with live := new, epoch := b.epoch, batch := none }
    engine := { s.engine with qualifier := s.engine.qualifier.applied old.device new.device }
    trackers := .ofFn fun n => (f n).record }.latchAll (clampKeys f)

/-- A boundary: a waiting batch is applied (R20). -/
def State.boundary (s : State) : State :=
  match s.store.batch with
  | none => s
  | some b => s.applyBatch b

/-! ### The scan engine -/

/-- The model's clock reaches the time an event is due (log entry 4). -/
def State.reach (t : Nat) (s : State) : State := { s with now := max s.now t }

/-- period_count or period_scale differs (R3, R32). -/
def periodChanged (old new : DeviceConfig) : Bool :=
  decide (old.periodCount ≠ new.periodCount) || decide (old.periodScale ≠ new.periodScale)

/-- The scan timer after a scan start (R31, R32). -/
def ScanTimer.atScanStart (mode : Mode) (changed : Bool) (period now : Nat) (t : ScanTimer) : ScanTimer :=
  match mode, t with
  | .triggered, t => t
  | .free, .stopped => .running period (now + period)
  | .free, .running p n => if changed then .running period (now + period) else .running p n

/-- The scan counter and scans_started advance (R36). -/
def State.countScan (s : State) : State :=
  { s with
    engine :=
      { s.engine with
        scanCounter := s.engine.scanCounter + 1
        counters := { s.engine.counters with started := s.engine.counters.started + 1 } } }

/-- A scan starts (R36, R37, R38, R54). -/
def State.scanStart (s : State) : State :=
  let s1 := s.countScan
  let s2 := s1.boundary
  let old := s1.store.live.device
  let new := s2.store.live
  { s2 with
    engine :=
      { s2.engine with
        timer := s2.engine.timer.atScanStart s2.engine.mode (periodChanged old new.device) new.device.period s2.now
        settle := none
        snapshot := .ofFn fun n => s2.trackers[n].appliedOffset
        scanEpoch := s2.store.epoch
        sync := .high
        runState := .scanning }
    frontEnd :=
      { s2.frontEnd with slot := some (beginSlot new 0 new.slots[0] (s2.now + Config.conversionTime)) } }

/-- The receiver leaves WAKE_LISTEN for HUNT (R154). -/
def RxState.leaveWakeListen (r : RxState) : RxState := if r = .wakeListen then .hunt else r

def State.leaveWakeListen (s : State) : State :=
  { s with link := { s.link with rxState := s.link.rxState.leaveWakeListen } }

/-- Drivers off, timer stopped, settle cancelled: what entry into STANDBY does before its boundary (R44, R154). -/
def State.restEngine (s : State) : State :=
  let s1 := s.driversRest.leaveWakeListen
  { s1 with engine := { s1.engine with timer := .stopped, settle := none } }

def State.setRunState (r : RunState) (s : State) : State := { s with engine := { s.engine with runState := r } }

/-- Entry into STANDBY (R44). -/
def State.enterStandby (s : State) : State := s.restEngine.boundary.setRunState .standby

/-- A timer expiry or a trigger in DOZE: SETTLING, the drivers on, the wake settle begun, the receiver in HUNT (R46, R47). -/
def State.enterSettling (s : State) : State :=
  let s1 := s.driversWake.leaveWakeListen
  { s1 with
    engine :=
      { s1.engine with
        runState := .settling
        settle := some (.wake (s1.now + s1.store.live.device.settleTime)) } }

/-- The wake from DOZE by a start bit (R46, R153). -/
def State.wakeByStartBit (s : State) : State :=
  let s1 := s.driversWake.setRunState .waiting
  { s1 with
    link :=
      { s1.link with
        rxState := .wakeQuiet
        counters := { s1.link.counters with wakeDiscards := s1.link.counters.wakeDiscards + 1 } } }

/-- An overrun (R33). -/
def State.overrun (s : State) : State :=
  { s with
    engine :=
      { s.engine with counters := { s.engine.counters with overruns := s.engine.counters.overruns + 1 } } }.latch
    .scanOverrun

/-- A missed trigger (R35). -/
def State.missTrigger (s : State) : State :=
  { s with
    engine :=
      { s.engine with
        counters := { s.engine.counters with triggersMissed := s.engine.counters.triggersMissed + 1 } } }.latch
    .triggerMissed

/-- A scan is in progress (R26). -/
def RunState.scanInProgress (r : RunState) : Bool := decide (r = .scanning) || decide (r = .draining)

/-! ### The transmitter -/

/-- A notice begins: it takes the notice sequence number (R160). -/
def State.beginNotice (kind : Byte) (body : List Byte) (s : State) : State :=
  { s with
    link :=
      { s.link with
        transmitter := .sending (makeFrame s.link.noticeSeq kind body)
        noticeSeq := s.link.noticeSeq + 1
        counters := { s.link.counters with noticesSent := s.link.counters.noticesSent + 1 } } }

/-- The body of a READY notice (R197). -/
def readyBody (cause : ResetCause) : List Byte := cause.code :: (bytes2 Config.partCode ++ [Config.siliconRevision])

/-- The body of an ALERT notice, taken as its transmission begins (R135, R196). -/
def State.alertBody (s : State) : List Byte :=
  bytes4 s.engine.scanCounter ++ byteOf s.alerts.entries.length :: s.alerts.entries.flatMap AlertEntry.short

/-- The head of the reply queue begins (R158, R159). -/
def State.beginReply (r : Reply) (s : State) : State :=
  { s with
    link :=
      { s.link with transmitter := .sending (makeFrame r.seq r.kind r.body), replies := s.link.replies.tail } }

def State.beginReady (cause : ResetCause) (s : State) : State :=
  { s with link := { s.link with readyNotice := none } }.beginNotice readyKind (readyBody cause)

def State.beginAlert (s : State) : State :=
  { s with link := { s.link with alertNotice := false } }.beginNotice alertKind s.alertBody

/-- The report side's offer begins (R124). -/
def State.beginReport (o : Offer) (s : State) : State :=
  { s with report := s.report.depart o }.beginNotice o.notice.1 o.notice.2

/-- What the arbiter chooses, by the order of R159. -/
inductive Choice where
  | reply (r : Reply)
  | ready (cause : ResetCause)
  | alert
  | report (o : Offer)
deriving DecidableEq, Repr

/-- The arbiter makes a choice while the transmitter is IDLE and no break holds RXD low (R152, R159). -/
def State.mayTransmit (s : State) : Bool :=
  decide (s.phase = .running) && decide (s.link.transmitter = .idle) && !s.link.rxdLow

/-- The first eligible candidate (R159). -/
def State.candidate (s : State) : Option Choice :=
  match s.link.replies with
  | r :: _ => some (.reply r)
  | [] =>
    match s.link.readyNotice with
    | some cause => some (.ready cause)
    | none => if s.link.alertNotice then some .alert else s.report.offer.map .report

/-- The chosen frame begins (R159). -/
def State.beginChoice (c : Choice) (s : State) : State :=
  match c with
  | .reply r => s.beginReply r
  | .ready cause => s.beginReady cause
  | .alert => s.beginAlert
  | .report o => s.beginReport o

/-- The arbiter's choice, if it makes one (R159). -/
def State.arbiter (s : State) : State :=
  if s.mayTransmit then
    match s.candidate with
    | none => s
    | some c => s.beginChoice c
  else s

/-! ### The receiver -/

/-- A start bit has come (R143). -/
def State.characterBegins (s : State) : State := { s with link := { s.link with startBit := true } }

/-- A character has ended, at its stop bit (R143). -/
def State.characterEnds (s : State) : State := { s with link := { s.link with startBit := false } }

/-- The frame in progress is gone and the receiver is in HUNT. -/
def State.toHunt (s : State) : State := { s with link := { s.link with rxState := .hunt, rxFrame := none } }

/-- A character timeout (R151). -/
def State.timeoutFrame (s : State) : State :=
  let s1 := s.toHunt
  { s1 with
    link :=
      { s1.link with
        counters := { s1.link.counters with charTimeouts := s1.link.counters.charTimeouts + 1 } } }.latch .linkError

/-- A LEN above 240 (R149). -/
def State.lengthFault (s : State) : State :=
  let s1 := s.toHunt
  { s1 with
    link :=
      { s1.link with
        counters := { s1.link.counters with lengthErrors := s1.link.counters.lengthErrors + 1 } } }.latch .linkError

def State.crcFault (s : State) : State :=
  let s1 := s.toHunt
  { s1 with
    link :=
      { s1.link with counters := { s1.link.counters with crcErrors := s1.link.counters.crcErrors + 1 } } }.latch
    .linkError

def State.overflowFault (s : State) : State :=
  let s1 := s.toHunt
  { s1 with
    link :=
      { s1.link with
        counters := { s1.link.counters with rxOverflows := s1.link.counters.rxOverflows + 1 } } }.latch .linkError

def State.holdFrame (f : Frame) (s : State) : State :=
  let s1 := s.toHunt
  { s1 with
    link :=
      { s1.link with
        holding := s1.link.holding ++ [f]
        counters := { s1.link.counters with framesAccepted := s1.link.counters.framesAccepted + 1 } } }

/-- A frame in progress as HEADER finds it at first (R148). -/
def RxFrame.start : RxFrame := ⟨none, none, none, [], crcStart, none⟩

/-- The frame a frame in progress has become, with the CRC computed over it (R150). -/
def RxFrame.frame (f : RxFrame) : Frame := ⟨f.seq.getD 0, f.kind.getD 0, f.body, f.crc⟩

/-- A frame's arrival, at its second CRC byte (R150). -/
def State.arrival (f : RxFrame) (crcHigh crcLow : Byte) (s : State) : State :=
  if (crcHigh ++ crcLow : Word16) ≠ f.crc then s.crcFault
  else if s.link.holding.length < Config.holdingFrames then s.holdFrame f.frame
  else s.overflowFault

def State.setReceiver (r : RxState) (f : Option RxFrame) (s : State) : State :=
  { s with link := { s.link with rxState := r, rxFrame := f } }

/-- A byte in HEADER (R149). -/
def State.headerByte (f : RxFrame) (b : Byte) (s : State) : State :=
  let crc := crcByte f.crc b
  match f.len, f.seq with
  | none, _ =>
    if Config.maxLen < b.toNat then s.lengthFault else s.setReceiver .header (some { f with len := some b, crc := crc })
  | some _, none => s.setReceiver .header (some { f with seq := some b, crc := crc })
  | some len, some _ =>
    s.setReceiver (if len = 0 then .check else .body) (some { f with kind := some b, crc := crc })

/-- A byte in BODY (R149). -/
def State.bodyByte (f : RxFrame) (b : Byte) (s : State) : State :=
  let f1 := { f with body := f.body ++ [b], crc := crcByte f.crc b }
  s.setReceiver (if (f.len.getD 0).toNat ≤ f1.body.length then .check else .body) (some f1)

/-- A byte in CHECK (R149, R150). -/
def State.checkByte (f : RxFrame) (b : Byte) (s : State) : State :=
  match f.crcHigh with
  | none => s.setReceiver .check (some { f with crcHigh := some b })
  | some high => s.arrival f high b

/-- The receiver takes a byte (R148, R149, R150, R153). -/
def State.receiveByte (b : Byte) (s : State) : State :=
  let f := s.link.rxFrame.getD .start
  match s.link.rxState with
  | .inactive => s
  | .wakeListen => s
  | .wakeQuiet => s
  | .hunt => if b = 0xA5 then s.setReceiver .sync none else s
  | .sync =>
    if b = 0x5A then s.setReceiver .header (some .start)
    else if b = 0xA5 then s
    else s.setReceiver .hunt none
  | .header => s.headerByte f b
  | .body => s.bodyByte f b
  | .check => s.checkByte f b

/-- The states in which the character timeout runs (R148, R151). -/
def RxState.insideFrame : RxState → Bool
  | .sync => true
  | .header => true
  | .body => true
  | .check => true
  | _ => false

end Sys2Proof.Machine
end

