-- ==== Sys2Proof/Machine/Completion.lean ====
section
/-! DEFINITION. Scan completion (R40, R41): the rewrite of the results (R63), its latches (R66), the tracker's work (R76), the
evaluation of the subscriptions with their arrivals (R104, R111, R118), and the abort of a scan (R43). -/

namespace Sys2Proof.Machine

/-- Scans since START and scans_completed advance (R40). -/
def State.countCompletion (s : State) : State :=
  { s with
    engine :=
      { s.engine with
        scansSinceStart := s.engine.scansSinceStart + 1
        counters := { s.engine.counters with completed := s.engine.counters.completed + 1 } } }

/-- The record a completion writes for a channel (R63). -/
def State.newResult (s : State) (n : Fin 16) : Option ChannelResult :=
  let cfg := s.store.live.channels[n]
  if cfg.enabled then
    some (channelResult cfg s.engine.scanCounter s.engine.scanEpoch s.engine.snapshot[n] s.frontEnd.measure[n]
      s.frontEnd.reference[n])
  else none

/-- The keys latched after the rewrite: INPUT_FAULT of each faulty channel, and EXCITATION_TRIP of each TRIPPED driver (R66). -/
def completionKeys (results : Vector (Option ChannelResult) 16) (d : Drivers) : List AlertKey :=
  ((List.finRange 16).filter fun n => faulty results[n]).map .inputFault ++
    ([Group.a, Group.b].filter fun g => decide (d.get g = .tripped)).map .excitationTrip

/-- The rewrite of the table and its latches (R63, R66). -/
def State.rewriteResults (s : State) : State :=
  let results : Vector (Option ChannelResult) 16 := .ofFn s.newResult
  { s with frontEnd := { s.frontEnd with results := results } }.latchAll (completionKeys results s.drivers)

/-- What a completion makes of channel `n`'s tracker record: only an enabled channel's is acted on (R76, R93). -/
def State.trackerCompleted (s : State) (n : Fin 16) : TrackerResult :=
  let cfg := s.store.live.channels[n]
  if cfg.enabled then
    s.trackers[n].complete cfg s.engine.scanCounter (validValues s.frontEnd.reference[n])
  else ⟨s.trackers[n], false⟩

/-- The tracker's work at a completion (R76). -/
def State.trackCompletion (s : State) : State :=
  { s with trackers := .ofFn fun n => (s.trackerCompleted n).record }.latchAll (clampKeys s.trackerCompleted)

/-- A record reaches the report queue, and a loss latches REPORT_LOSS (R118, R130). -/
def State.arrive (r : ReportRecord) (s : State) : State :=
  let s1 := { s with report := s.report.arrive r }
  if s.report.full then s1.latch .reportLoss else s1

/-- The arrivals of one completion in order. `choiceAfter` says after how many of them the arbiter makes a choice before the
next (R118, log entry 14); `done` counts those made. -/
def State.arriveAll (choiceAfter : Option Nat) (done : Nat) : List ReportRecord → State → State
  | [], s => s
  | [r], s => s.arrive r
  | r :: rest, s =>
    let s1 := s.arrive r
    (if choiceAfter = some (done + 1) then s1.arbiter else s1).arriveAll choiceAfter (done + 1) rest

/-- The subscription table is evaluated in ascending id, and the records created arrive in that order (R104, R111). -/
def State.evaluateSubscriptions (choiceAfter : Option Nat) (s : State) : State :=
  let outcomes := s.subs.map fun e => e.step s.frontEnd.results
  State.arriveAll choiceAfter 0 (outcomes.filterMap (·.2)) { s with subs := outcomes.map (·.1) }

/-- The lists are emptied and no slot is in flight (R53). -/
def State.clearScan (s : State) : State :=
  { s with
    frontEnd := { s.frontEnd with slot := none, measure := .replicate 16 [], reference := .replicate 16 [] } }

/-- The run ends at this completion (R41). -/
def ScanEngine.limitReached (e : ScanEngine) : Bool :=
  decide (0 < e.scanLimit) && decide (e.scansSinceStart.toNat = e.scanLimit)

/-- The engine leaves SCANNING or DRAINING (R41). -/
def State.leaveScan (s : State) : State :=
  if s.engine.runState = .scanning ∧ s.engine.limitReached = false then s.setRunState .waiting else s.enterStandby

/-- Scan completion (R40, R41, R63). -/
def State.completeScan (choiceAfter : Option Nat) (s : State) : State :=
  (s.countCompletion.rewriteResults.trackCompletion.evaluateSubscriptions choiceAfter).clearScan.leaveScan

/-- A scan is aborted (R43). -/
def State.abortScan (s : State) : State :=
  let s1 := s.clearScan
  { s1 with
    engine :=
      { s1.engine with counters := { s1.engine.counters with aborted := s1.engine.counters.aborted + 1 } } }

/-- A reading is appended to the list of its channel and kind (R56). -/
def FrontEnd.append (kind : SlotKind) (n : Fin 16) (r : Reading) (f : FrontEnd) : FrontEnd :=
  match kind with
  | .measure => { f with measure := f.measure.set n (f.measure[n] ++ [r]) }
  | .reference => { f with reference := f.reference.set n (f.reference[n] ++ [r]) }

/-- A slot has ended: its reading is appended, and the next slot begins or the scan completes (R39, R54). -/
def State.endSlot (choiceAfter : Option Nat) (sl : SlotInFlight) (s : State) : State :=
  let f := s.frontEnd.append sl.kind sl.channel sl.reading
  match s.store.live.plan[sl.number + 1]? with
  | some next =>
    { s with frontEnd := { f with slot := some (beginSlot s.store.live (sl.number + 1) next sl.endsAt) } }
  | none => State.completeScan choiceAfter { s with frontEnd := { f with slot := none } }

/-- The conversion in flight of a slot ends (R51, R54). -/
def State.endConversion (code : Int) (senseGood : Bool) (choiceAfter : Option Nat) (sl : SlotInFlight) (s : State) :
    State :=
  let status := conversionStatus (s.drivers.get sl.group) senseGood code
  let s1 := s.reach sl.endsAt
  match sl.advance status code with
  | (sl1, false) => { s1 with frontEnd := { s1.frontEnd with slot := some sl1 } }
  | (sl1, true) => s1.endSlot choiceAfter sl1

end Sys2Proof.Machine
end

