-- ==== Sys2Proof/Machine/AlertRequests.lean ====
section
/-! DEFINITION. The requests of the alert unit: ACK_ALERTS (R172) and READ_ALERTS (R178). -/

namespace Sys2Proof.Machine

/-! ### ACK_ALERTS -/

/-- What an ACK_ALERTS names: every key, or a list of key indices (R172). -/
inductive AckForm where
  | all
  | list (keys : List Byte)
deriving DecidableEq, Repr

/-- The form of a well-formed body (R167, R172). -/
def ackForm (body : List Byte) : AckForm :=
  match body with
  | [] => .list []
  | form :: keys => if form = ackAllForm then .all else .list keys

/-- The form names an entry's key (R137). -/
def AckForm.names (a : AckForm) (e : AlertEntry) : Bool :=
  match a with
  | .all => true
  | .list keys => keys.any fun k => decide (k.toNat = e.key.index)

/-- The own check of ACK_ALERTS: the position of the first index above 37 (R172). -/
def AckForm.fault (a : AckForm) : Option Rejection :=
  match a with
  | .all => none
  | .list keys => (firstAbove maxKeyIndex keys).map fun i => ⟨.outOfRange, 0, i⟩

/-- The contents of the ACK_ALERTS reply (R172). -/
def ackContents (removed : List AlertEntry) (left : Nat) : List Byte :=
  byteOf removed.length :: (removed.flatMap AlertEntry.short ++ [byteOf left])

def ownAckAlerts (f : Frame) (s : State) : State :=
  let a := ackForm f.body
  match a.fault with
  | some r => s.refuse .ackAlerts f r
  | none =>
    let removed := s.alerts.entries.filter a.names
    let left := s.alerts.entries.filter fun e => !a.names e
    let s1 := { s with alerts := { s.alerts with entries := left } }.withdrawAlert
    (s1.accept .ackAlerts f (ackContents removed left.length)).renewAlert

/-- R172. -/
def execAckAlerts (s : State) : Host.Outcome State Fault Refusal := .next (s.execute .ackAlerts ownAckAlerts)

/-! ### READ_ALERTS -/

/-- The most entries one READ_ALERTS returns (R140). -/
def listedAlerts : Nat := 16

/-- The key index of the first entry beyond those returned, or 0xFF (R178). -/
def nextKeyIndex (rest : List AlertEntry) : Nat :=
  match rest with
  | [] => noIndex
  | e :: _ => e.key.index

/-- The contents of the reply that reads from a first key index onward (R178). -/
def readAlertsContents (first : Nat) (u : AlertUnit) : List Byte :=
  let onward := u.entries.filter fun e => decide (first ≤ e.key.index)
  let shown := onward.take listedAlerts
  [byteOf u.entries.length, flagByte u.noticeOutstanding, byteOf (nextKeyIndex (onward.drop listedAlerts)),
    byteOf shown.length] ++ shown.flatMap AlertEntry.full

def ownReadAlerts (f : Frame) (s : State) : State :=
  match f.body with
  | [first] =>
    if maxKeyIndex < first.toNat then s.refuse .readAlerts f ⟨.outOfRange, 0, 0⟩
    else s.accept .readAlerts f (readAlertsContents first.toNat s.alerts)
  | _ => s.refuse .readAlerts f ⟨.badLength, 0, noIndex⟩

/-- R178. -/
def execReadAlerts (s : State) : Host.Outcome State Fault Refusal := .next (s.execute .readAlerts ownReadAlerts)

end Sys2Proof.Machine
end

