-- ==== Sys2Proof/Machine/ChannelRequests.lean ====
section
/-! DEFINITION. The requests that name channels: RETRACK (R185), READ_TRACKER (R182) and READ_RESULTS (R181). -/

namespace Sys2Proof.Machine

/-- A list of channel numbers; the first above 15 refuses the request with its position (R181, R182, R185). -/
def channelOperands (bs : List Byte) : Except Rejection (List (Fin 16)) :=
  match firstAbove 15 bs with
  | some i => .error ⟨.outOfRange, 0, i⟩
  | none => .ok (bs.filterMap channelOfByte)

/-! ### RETRACK -/

/-- The operands of RETRACK after its own checks (R185). -/
def retrackOperands (body : List Byte) : Except Rejection (Response × List (Fin 16)) :=
  match body with
  | [] => .error ⟨.badLength, 0, noIndex⟩
  | e :: bs =>
    match retrackEffectOfCode e with
    | none => .error ⟨.outOfRange, 0, noIndex⟩
    | some effect =>
      match channelOperands bs with
      | .error r => .error r
      | .ok ns => .ok (effect, ns)

/-- A MANUAL trigger on a channel's record, and whether it is taken (R83, R86, R94). A channel that is FIXED or disabled is
skipped. -/
def manualTrigger (effect : Response) (cfg : ChannelConfig) (scan : Word32) (t : Tracker) : Tracker × Bool :=
  if cfg.zeroMode = .fixed ∨ cfg.enabled = false then (t, false)
  else
    match effect with
    | .hard => (t.hardTrigger .manual scan, true)
    | .soft => t.softTrigger cfg.followScans scan

/-- What RETRACK makes of channel `n`'s record (R94). -/
def State.retracked (effect : Response) (ns : List (Fin 16)) (s : State) (n : Fin 16) : Tracker × Bool :=
  if n ∈ ns then manualTrigger effect s.store.live.channels[n] s.engine.scanCounter s.trackers[n]
  else (s.trackers[n], false)

/-- The channels on which the trigger was taken, in ascending order (R94). -/
def State.triggeredChannels (effect : Response) (ns : List (Fin 16)) (s : State) : List (Fin 16) :=
  (List.finRange 16).filter fun n => (s.retracked effect ns n).2

def ownRetrack (f : Frame) (s : State) : State :=
  match retrackOperands f.body with
  | .error r => s.refuse .retrack f r
  | .ok (effect, ns) =>
    let taken := s.triggeredChannels effect ns
    { s with trackers := .ofFn fun n : Fin 16 => (s.retracked effect ns n).1 }.accept .retrack f
      (byteOf taken.length :: taken.map fun n : Fin 16 => byteOf n.val)

/-- R185. -/
def execRetrack (s : State) : Host.Outcome State Fault Refusal := .next (s.execute .retrack ownRetrack)

/-! ### READ_TRACKER -/

/-- A tracker record as READ_TRACKER carries it (R182). -/
def trackerBytes (n : Fin 16) (t : Tracker) : List Byte :=
  [byteOf n.val, t.state.code] ++ bytesOfInt t.appliedOffset ++ [byteOf t.remaining] ++ bytes4 t.triggerCount ++
    [bitsByte t.lastEstimate.isSome t.lastTrigger.isSome false false, byteOf t.window.length] ++
    t.window.flatMap bytesOfInt ++ presentBytes t.lastEstimate ++
    (match t.lastTrigger with
      | none => []
      | some m => m.kind.code :: bytes4 m.scan)

def ownReadTracker (f : Frame) (s : State) : State :=
  match channelOperands f.body with
  | .error r => s.refuse .readTracker f r
  | .ok ns => s.accept .readTracker f (byteOf ns.length :: ns.flatMap fun n => trackerBytes n s.trackers[n])

/-- R182. -/
def execReadTracker (s : State) : Host.Outcome State Fault Refusal := .next (s.execute .readTracker ownReadTracker)

/-! ### READ_RESULTS -/

/-- A record of the channel results table as READ_RESULTS carries it (R181). -/
def resultBytes (n : Fin 16) (r : Option ChannelResult) : List Byte :=
  match r with
  | none => [byteOf n.val, 0]
  | some x =>
    [byteOf n.val, 1] ++ bytes4 x.scanNumber ++ bytes2 x.epoch ++ [x.flags.byte] ++ bytesOfInt x.offsetUsed ++
      [byteOf x.measureCount, byteOf x.referenceCount] ++
      (match x.measured with
        | none => []
        | some m => bytesOfInt m.rawMean ++ bytesOfInt m.corrected ++ bytesOfInt m.value)

def ownReadResults (f : Frame) (s : State) : State :=
  match channelOperands f.body with
  | .error r => s.refuse .readResults f r
  | .ok ns =>
    s.accept .readResults f (byteOf ns.length :: ns.flatMap fun n => resultBytes n s.frontEnd.results[n])

/-- R181. -/
def execReadResults (s : State) : Host.Outcome State Fault Refusal := .next (s.execute .readResults ownReadResults)

end Sys2Proof.Machine
end

