-- ==== Sys2Proof/Machine/ConfigRequests.lean ====
section
/-! DEFINITION. The requests of the configuration store: STAGE (R187), DISCARD (R173), SEAL (R186) and READ_CONFIG (R179). -/

namespace Sys2Proof.Machine

/-! ### STAGE -/

/-- One edit descriptor checked on its own: target, then field, then value (R10). -/
def checkEdit (seq : Byte) (pos : Nat) (r : RawEdit) : Except Rejection Edit :=
  match targetOfCode r.target.toNat with
  | none => .error ⟨.badTarget, 0, pos⟩
  | some t =>
    match fieldOfId t r.field.toNat with
    | none => .error ⟨.badField, 0, pos⟩
    | some f => if f.inRange r.value then .ok ⟨f, r.value, seq⟩ else .error ⟨.outOfRange, 0, pos⟩

/-- The edits of a request in order from position `pos`; the first that fails refuses it (R10). -/
def checkEdits (seq : Byte) (pos : Nat) : List RawEdit → Except Rejection (List Edit)
  | [] => .ok []
  | r :: rest =>
    match checkEdit seq pos r with
    | .error e => .error e
    | .ok e =>
      match checkEdits seq (pos + 1) rest with
      | .error e' => .error e'
      | .ok es => .ok (e :: es)

/-- An edit placed in the staging set: an edit of the same target and field is removed, the new one goes to the tail (R11). -/
def placeEdit (staging : List Edit) (e : Edit) : List Edit :=
  staging.filter (fun x => decide (x.field ≠ e.field)) ++ [e]

/-- The staging set that would result (R11). -/
def placeEdits (staging : List Edit) (es : List Edit) : List Edit := es.foldl placeEdit staging

def ownStage (f : Frame) (s : State) : State :=
  match checkEdits f.seq 0 (rawEdits f.body) with
  | .error r => s.refuse .stage f r
  | .ok es =>
    let result := placeEdits s.store.staging es
    if Config.stagedEdits < result.length then s.refuse .stage f ⟨.stagingFull, 0, noIndex⟩
    else
      { s with store := { s.store with staging := result } }.accept .stage f [byteOf result.length]

/-- R187. -/
def execStage (s : State) : Host.Outcome State Fault Refusal := .next (s.execute .stage ownStage)

/-! ### DISCARD -/

def ownDiscard (f : Frame) (s : State) : State :=
  { s with store := { s.store with staging := [] } }.accept .discard f [byteOf s.store.staging.length]

/-- R173. -/
def execDiscard (s : State) : Host.Outcome State Fault Refusal := .next (s.execute .discard ownDiscard)

/-! ### SEAL -/

/-- Check 1: the staging-set position of the first standby-only edit, outside STANDBY (R14). -/
def sealStateFault (r : RunState) (staging : List Edit) : Option Nat :=
  if r = .standby then none else staging.findIdx? fun e => e.field.standbyOnly

/-- Check 2: the lowest slot of the plan that names a disabled channel (R15). -/
def planChannelFault (c : Configuration) : Option Nat :=
  c.plan.findIdx? fun sl => !c.channels[sl.channel].enabled

/-- A REFERENCE slot of the plan names the channel (R15). -/
def Configuration.covered (c : Configuration) (n : Fin 16) : Bool :=
  c.plan.any fun sl => decide (sl.kind = .reference) && decide (sl.channel = n)

/-- A slot of the plan names the channel (R16). -/
def Configuration.planned (c : Configuration) (n : Fin 16) : Bool := c.plan.any fun sl => decide (sl.channel = n)

/-- The lowest-numbered channel with a property. -/
def lowestChannel (p : Fin 16 → Bool) : Option Nat := ((List.finRange 16).find? p).map (·.val)

/-- Check 3 (R15). -/
def referenceCoverFault (c : Configuration) : Option Nat :=
  lowestChannel fun n => c.channels[n].enabled && decide (c.channels[n].zeroMode = .track) && !c.covered n

/-- A channel's thresholds pass check 4 (R16). -/
def ChannelConfig.thresholdsOk (ch : ChannelConfig) : Bool :=
  decide (ch.softThreshold = Config.thresholdOff) || decide (ch.hardThreshold = Config.thresholdOff) ||
    decide (ch.softThreshold < ch.hardThreshold)

/-- Check 4 (R16). -/
def thresholdsFault (c : Configuration) : Option Nat := lowestChannel fun n => !c.channels[n].thresholdsOk

/-- A channel's fixed offset passes check 5 (R16). -/
def ChannelConfig.fixedRangeOk (ch : ChannelConfig) : Bool :=
  decide (ch.zeroMode = .track) || decide (ch.fixedOffset.natAbs ≤ ch.maxCorrection)

/-- Check 5 (R16). -/
def fixedRangeFault (c : Configuration) : Option Nat := lowestChannel fun n => !c.channels[n].fixedRangeOk

/-- Check 6 (R16). -/
def excitationFault (c : Configuration) : Option Nat :=
  lowestChannel fun n => c.planned n && decide (c.device.level c.channels[n].exciteGroup = .off)

/-- Check 7 (R17). -/
def durationFault (c : Configuration) : Option Nat := if c.duration < c.device.period then none else some noIndex

/-- The first of checks 2 to 7 that fails, with its check number and index (R13, R186). -/
def consistencyFault (c : Configuration) : Option Rejection :=
  match planChannelFault c with
  | some i => some ⟨.inconsistent, 2, i⟩
  | none =>
    match referenceCoverFault c with
    | some i => some ⟨.inconsistent, 3, i⟩
    | none =>
      match thresholdsFault c with
      | some i => some ⟨.inconsistent, 4, i⟩
      | none =>
        match fixedRangeFault c with
        | some i => some ⟨.inconsistent, 5, i⟩
        | none =>
          match excitationFault c with
          | some i => some ⟨.inconsistent, 6, i⟩
          | none =>
            match durationFault c with
            | some i => some ⟨.inconsistent, 7, i⟩
            | none => none

/-- A configuration passes checks 2 to 7. -/
def Configuration.consistent (c : Configuration) : Bool := (consistencyFault c).isNone

/-- The prospective configuration (R13). -/
def ConfigStore.prospective (st : ConfigStore) : Configuration := st.live.applyEdits st.staging

/-- The refusal of a SEAL, if it is refused (R13, R14). -/
def State.sealFault (s : State) : Option Rejection :=
  if s.store.staging = [] then some ⟨.empty, 0, noIndex⟩
  else if s.store.batch ≠ none then some ⟨.batchPending, 0, noIndex⟩
  else
    match sealStateFault s.engine.runState s.store.staging with
    | some i => some ⟨.wrongState, 1, i⟩
    | none => consistencyFault s.store.prospective

/-- The batch a successful SEAL makes (R18). -/
def ConfigStore.sealedBatch (st : ConfigStore) : Batch := ⟨st.staging, nextEpoch st.epoch⟩

def ownSeal (f : Frame) (s : State) : State :=
  match s.sealFault with
  | some r => s.refuse .seal f r
  | none =>
    let b := s.store.sealedBatch
    let s1 := { s with store := { s.store with staging := [] } }
    if s.engine.runState = .standby then (s1.applyBatch b).accept .seal f (sealAppliedCode :: bytes2 b.epoch)
    else
      { s1 with store := { s1.store with batch := some b } }.accept .seal f (sealPendingCode :: bytes2 b.epoch)

/-- R186. -/
def execSeal (s : State) : Host.Outcome State Fault Refusal := .next (s.execute .seal ownSeal)

/-! ### READ_CONFIG -/

/-- The fields one item stands for (R24, R25). -/
def itemFields (pos : Nat) (item : Byte × Byte) : Except Rejection (List FieldRef) :=
  match targetOfCode item.1.toNat with
  | none => .error ⟨.badTarget, 0, pos⟩
  | some t =>
    if item.2 = 0 then .ok t.fields
    else
      match fieldOfId t item.2.toNat with
      | none => .error ⟨.badField, 0, pos⟩
      | some f => .ok [f]

/-- The fields of all items in item order (R25). -/
def itemsFields (pos : Nat) : List (Byte × Byte) → Except Rejection (List FieldRef)
  | [] => .ok []
  | item :: rest =>
    match itemFields pos item with
    | .error e => .error e
    | .ok fs =>
      match itemsFields (pos + 1) rest with
      | .error e => .error e
      | .ok gs => .ok (fs ++ gs)

/-- The edits a view lays over the live configuration (R24). -/
def ConfigStore.overlay (st : ConfigStore) : View → List Edit
  | .live => []
  | .staged => st.staging
  | .sealed =>
    match st.batch with
    | none => []
    | some b => b.edits

/-- One field as a view shows it: value, source and SEQ, 0 for a source of LIVE (R24, R179). -/
def ConfigStore.fieldInView (st : ConfigStore) (v : View) (f : FieldRef) : Int × View × Byte :=
  match (st.overlay v).find? fun e => decide (e.field = f) with
  | some e => (e.value, v, e.seq)
  | none => (st.live.get f, .live, 0)

/-- A field returned by READ_CONFIG (R179). -/
def ConfigStore.fieldBytes (st : ConfigStore) (v : View) (f : FieldRef) : List Byte :=
  let r := st.fieldInView v f
  [byteOf f.target.code, byteOf f.id] ++ bytesOfInt r.1 ++ [r.2.1.code, r.2.2]

/-- The most fields one READ_CONFIG returns (R25). -/
def maxFields : Nat := 24

/-- The operands of READ_CONFIG after its own checks, in their order (R179). -/
def readConfigOperands (st : ConfigStore) (body : List Byte) : Except Rejection (View × List FieldRef) :=
  match body with
  | [] => .error ⟨.badLength, 0, noIndex⟩
  | v :: items =>
    match View.ofCode v with
    | none => .error ⟨.outOfRange, 0, noIndex⟩
    | some view =>
      match itemsFields 0 (rawItems items) with
      | .error e => .error e
      | .ok fs =>
        if maxFields < fs.length then .error ⟨.outOfRange, 0, noIndex⟩
        else if view = .sealed ∧ st.batch = none then .error ⟨.notFound, 0, noIndex⟩
        else .ok (view, fs)

def ownReadConfig (f : Frame) (s : State) : State :=
  match readConfigOperands s.store f.body with
  | .error r => s.refuse .readConfig f r
  | .ok (view, fs) =>
    s.accept .readConfig f
      (view.code :: (bytes2 s.store.epoch ++ bytes2 s.store.batchEpoch ++
        [byteOf s.store.staging.length, byteOf fs.length] ++ fs.flatMap (s.store.fieldBytes view)))

/-- R179. -/
def execReadConfig (s : State) : Host.Outcome State Fault Refusal := .next (s.execute .readConfig ownReadConfig)

end Sys2Proof.Machine
end

