-- ==== Sys2Proof/Machine/LinkEvents.lean ====
section
/-! DEFINITION. The events of the link: characters and frames (R148 to R151), breaks (R152), the wake (R153), the arbiter and the end of a
transmission (R159, R163). -/

namespace Sys2Proof.Machine

/-- An event takes place only while the part runs: in reset and in start-up RXD is ignored and every block holds its reset
values (R162, log entry 12). -/
def State.whileRunning (f : State → State) (s : State) : State := if s.phase = .running then f s else s

/-! ### Characters -/

/-- A framing error (R143): no byte; a frame whose 2 ms have passed is abandoned now (R151). -/
def State.framingError (late : Bool) (s : State) : State :=
  if late = true ∧ s.link.rxState.insideFrame = true then s.timeoutFrame else s

/-- A character, while no break holds RXD low, at its stop bit (R148, R152). -/
def State.receiveCharacter (c : Character) (s : State) : State :=
  if s.link.rxdLow then s
  else
    match c with
    | .byte b => s.characterEnds.receiveByte b
    | .framingError late => s.characterEnds.framingError late

/-- R148. -/
def execCharacterReceived (c : Character) (s : State) : Host.Outcome State Fault Refusal :=
  .next (s.whileRunning (State.receiveCharacter c))

/-- The byte is the second CRC byte of a frame in progress (R149, R150). -/
def Link.awaitsLastByte (l : Link) : Bool :=
  decide (l.rxState = .check) && (l.rxFrame.getD .start).crcHigh.isSome && !l.rxdLow

/-- The byte is the LEN byte of a frame in progress (R149). -/
def Link.awaitsLen (l : Link) : Bool :=
  decide (l.rxState = .header) && (l.rxFrame.getD .start).len.isNone && !l.rxdLow

/-- R150. -/
def execFrameArrival (crcLow : Byte) (s : State) : Host.Outcome State Fault Refusal :=
  .next (s.whileRunning fun s => if s.link.awaitsLastByte then s.characterEnds.receiveByte crcLow else s)

/-- R149. -/
def execLengthError (len : Byte) (s : State) : Host.Outcome State Fault Refusal :=
  .next (s.whileRunning fun s => if s.link.awaitsLen = true ∧ Config.maxLen < len.toNat then s.characterEnds.lengthFault else s)

/-- The character timeout, which a start bit holds off while its character is received (R151). -/
def State.characterTimesOut (s : State) : State :=
  if s.link.rxState.insideFrame = true ∧ s.link.startBit = false then s.timeoutFrame else s

/-- R151. -/
def execCharacterTimeout (s : State) : Host.Outcome State Fault Refusal :=
  .next (s.whileRunning State.characterTimesOut)

/-! ### Breaks -/

/-- The RESET reply is waiting in the reply queue or in flight (R163). -/
def Link.resetReplyPending (l : Link) : Bool :=
  l.replies.any (fun r => isResetReply r.kind r.body) ||
    match l.transmitter with
    | .idle => false
    | .sending f => isResetReply f.kind f.body

/-- The effects of a break on the link (R152, R161). -/
def State.breakLink (s : State) : State :=
  { s with
    link :=
      { s.link with
        rxState := if s.link.rxState = .wakeQuiet then .wakeQuiet else .hunt
        rxFrame := none
        rxdLow := true
        startBit := false
        holding := []
        replies := []
        transmitter := .idle
        counters := { s.link.counters with breaks := s.link.counters.breaks + 1 } } }

/-- A break: its falling edge makes the wake in WAKE_LISTEN (log entry 9), and the reset a RESET asked for takes place where
the break cuts or discards its reply (R163). One low period makes one break (R152). -/
def State.receiveBreak (rate : Level) (s : State) : State :=
  if s.link.rxdLow then s
  else
    let s1 := if s.link.rxState = .wakeListen then s.wakeByStartBit else s
    let s2 := s1.breakLink
    if s1.link.resetTaken = true ∧ s1.link.resetReplyPending = true then s2.requestedReset rate else s2

/-- R152. -/
def execBreakDetected (rate : Level) (s : State) : Host.Outcome State Fault Refusal :=
  .next (s.whileRunning (State.receiveBreak rate))

/-- R152. -/
def execBreakEnd (s : State) : Host.Outcome State Fault Refusal :=
  .next (s.whileRunning fun s => { s with link := { s.link with rxdLow := false } })

/-! ### The wake -/

/-- A start bit on RXD. In WAKE_LISTEN it makes the wake (R153), in WAKE_QUIET it is ignored, and in the other states a character
begins (R143, R151, R165; log entry 8). RXD held low after a break gives no falling edge (R152). -/
def State.takeStartBit (s : State) : State :=
  if s.link.rxdLow then s
  else
    match s.link.rxState with
    | .wakeListen => s.wakeByStartBit
    | .wakeQuiet => s
    | .inactive => s
    | .hunt => s.characterBegins
    | .sync => s.characterBegins
    | .header => s.characterBegins
    | .body => s.characterBegins
    | .check => s.characterBegins

/-- R153. -/
def execWake (s : State) : Host.Outcome State Fault Refusal := .next (s.whileRunning State.takeStartBit)

/-- R153. -/
def execWakeQuietEnd (s : State) : Host.Outcome State Fault Refusal :=
  .next
    (s.whileRunning fun s =>
      if s.link.rxState = .wakeQuiet ∧ s.link.rxdLow = false then s.setReceiver .hunt none else s)

/-! ### The transmitter -/

/-- R159. -/
def execArbiterChoice (s : State) : Host.Outcome State Fault Refusal := .next s.arbiter

/-- The frame in flight has ended: the transmitter is IDLE, and after the RESET reply the reset takes place (R159, R163). -/
def State.endTransmission (rate : Level) (s : State) : State :=
  match s.link.transmitter with
  | .idle => s
  | .sending f =>
    let s1 := { s with link := { s.link with transmitter := .idle } }
    if s.link.resetTaken = true ∧ isResetReply f.kind f.body = true then s1.requestedReset rate else s1

/-- R159. -/
def execTransmitEnd (rate : Level) (s : State) : Host.Outcome State Fault Refusal :=
  .next (s.whileRunning (State.endTransmission rate))

end Sys2Proof.Machine
end

