-- ==== Sys2Proof/Machine/ReportRequests.lean ====
section
/-! DEFINITION. The requests of the report side: SUBSCRIBE (R190), UNSUBSCRIBE (R191), LIST_SUBSCRIPTIONS (R177) and GRANT (R175). -/

namespace Sys2Proof.Machine

/-! ### SUBSCRIBE -/

/-- Checks 3 and 4: the condition a kind and its parameters name, in their ranges (R98, R99). -/
def conditionOperands (r : RawSubscription) : Except Rejection Condition :=
  if r.kind = 0 then
    if 1 ≤ r.first ∧ r.first ≤ 1000 then .ok (.every r.first.toNat) else .error ⟨.outOfRange, 4, noIndex⟩
  else if r.kind = 1 then
    if 1 ≤ r.first ∧ r.first ≤ Config.valueLimit then .ok (.deadband r.first) else .error ⟨.outOfRange, 4, noIndex⟩
  else if r.kind = 2 then
    if -Config.valueLimit ≤ r.first ∧ r.first ≤ Config.valueLimit ∧ -Config.valueLimit ≤ r.second ∧
        r.second ≤ Config.valueLimit ∧ r.first < r.second ∧ 0 ≤ r.third ∧ r.third ≤ Config.valueLimit ∧
        2 * r.third ≤ r.second - r.first then
      .ok (.limit r.first r.second r.third)
    else .error ⟨.outOfRange, 4, noIndex⟩
  else .error ⟨.outOfRange, 3, noIndex⟩

/-- Checks 1 to 5 in order, and the entry in its creation state (R98 to R100). -/
def newSubscription (r : RawSubscription) : Except Rejection Subscription :=
  if r.id.toNat < 1 ∨ Config.subscriptions < r.id.toNat then .error ⟨.outOfRange, 1, noIndex⟩
  else
    match channelOfByte r.channel with
    | none => .error ⟨.outOfRange, 2, noIndex⟩
    | some n =>
      match conditionOperands r with
      | .error e => .error e
      | .ok c =>
        if 3 < r.flags.toNat then .error ⟨.outOfRange, 5, noIndex⟩
        else
          .ok
            { id := r.id.toNat, channel := n, condition := c, withRaw := r.flags.getLsbD 0,
              withOffset := r.flags.getLsbD 1, scansCounted := 0, lastReported := none, zone := .unknown }

/-- The seven checks of SUBSCRIBE on a table (R99). -/
def subscribeOperands (subs : List Subscription) (body : List Byte) : Except Rejection Subscription :=
  match rawSubscription body with
  | none => .error ⟨.badLength, 0, noIndex⟩
  | some r =>
    match newSubscription r with
    | .error e => .error e
    | .ok e =>
      if Config.subscriptions ≤ subs.length then .error ⟨.tableFull, 6, noIndex⟩
      else if subs.any fun x => decide (x.id = e.id) then .error ⟨.idInUse, 7, e.id⟩
      else .ok e

/-- An entry takes its place in the table at its id (R97, R100). -/
def insertSubscription (e : Subscription) : List Subscription → List Subscription
  | [] => [e]
  | x :: xs => if e.id < x.id then e :: x :: xs else x :: insertSubscription e xs

def ownSubscribe (f : Frame) (s : State) : State :=
  match subscribeOperands s.subs f.body with
  | .error r => s.refuse .subscribe f r
  | .ok e =>
    let subs := insertSubscription e s.subs
    { s with subs := subs }.accept .subscribe f [byteOf subs.length]

/-- R190. -/
def execSubscribe (s : State) : Host.Outcome State Fault Refusal := .next (s.execute .subscribe ownSubscribe)

/-! ### UNSUBSCRIBE -/

/-- The table without the entry of an id (R101). -/
def removeSubscription (id : Nat) (subs : List Subscription) : List Subscription :=
  subs.filter fun x => decide (x.id ≠ id)

def ownUnsubscribe (f : Frame) (s : State) : State :=
  match f.body with
  | [id] =>
    if s.subs.any fun x => decide (x.id = id.toNat) then
      let subs := removeSubscription id.toNat s.subs
      { s with subs := subs }.accept .unsubscribe f [byteOf subs.length]
    else s.refuse .unsubscribe f ⟨.notFound, 0, noIndex⟩
  | _ => s.refuse .unsubscribe f ⟨.badLength, 0, noIndex⟩

/-- R191. -/
def execUnsubscribe (s : State) : Host.Outcome State Fault Refusal := .next (s.execute .unsubscribe ownUnsubscribe)

/-! ### LIST_SUBSCRIPTIONS -/

/-- The three parameters as the link carries them; one the condition does not use is 0 (R177, R190). -/
def Condition.parameters : Condition → Int × Int × Int
  | .every n => (n, 0, 0)
  | .deadband d => (d, 0, 0)
  | .limit low high hysteresis => (low, high, hysteresis)

/-- An entry as LIST_SUBSCRIPTIONS carries it (R177). -/
def Subscription.bytes (e : Subscription) : List Byte :=
  let p := e.condition.parameters
  [byteOf e.id, byteOf e.channel.val, e.condition.code] ++ bytesOfInt p.1 ++ bytesOfInt p.2.1 ++ bytesOfInt p.2.2 ++
    [contentFlags e.withRaw e.withOffset] ++ bytes2OfNat e.scansCounted ++
    [e.zone.code, flagByte e.lastReported.isSome] ++ presentBytes e.lastReported

/-- The most entries one LIST_SUBSCRIPTIONS returns (R102). -/
def listedEntries : Nat := 8

/-- The id of the first entry beyond those returned, or 0 (R177). -/
def nextId (rest : List Subscription) : Nat :=
  match rest with
  | [] => 0
  | e :: _ => e.id

/-- The contents of the reply that lists from a first id onward (R177). -/
def listContents (first : Nat) (subs : List Subscription) : List Byte :=
  let onward := subs.filter fun e => decide (first ≤ e.id)
  let shown := onward.take listedEntries
  [byteOf subs.length, byteOf (nextId (onward.drop listedEntries)), byteOf shown.length] ++
    shown.flatMap Subscription.bytes

def ownListSubscriptions (f : Frame) (s : State) : State :=
  match f.body with
  | [first] =>
    if first.toNat < 1 ∨ Config.subscriptions < first.toNat then
      s.refuse .listSubscriptions f ⟨.outOfRange, 0, 0⟩
    else s.accept .listSubscriptions f (listContents first.toNat s.subs)
  | _ => s.refuse .listSubscriptions f ⟨.badLength, 0, noIndex⟩

/-- R177. -/
def execListSubscriptions (s : State) : Host.Outcome State Fault Refusal :=
  .next (s.execute .listSubscriptions ownListSubscriptions)

/-! ### GRANT -/

/-- Credits after a grant (R122). -/
def grantedCredits (credits n : Nat) : Nat := min Config.maxCredits (credits + n)

def ownGrant (f : Frame) (s : State) : State :=
  match f.body with
  | [n] =>
    if n = 0 then s.refuse .grant f ⟨.outOfRange, 0, 0⟩
    else
      let credits := grantedCredits s.report.credits n.toNat
      { s with report := { s.report with credits := credits } }.accept .grant f [byteOf credits]
  | _ => s.refuse .grant f ⟨.badLength, 0, noIndex⟩

/-- R175. -/
def execGrant (s : State) : Host.Outcome State Fault Refusal := .next (s.execute .grant ownGrant)

end Sys2Proof.Machine
end

