-- ==== Sys2Proof/Machine/ResetEvents.lean ====
section
/-! DEFINITION. Power-on, RESET_N and the end of start-up (R162, R184). -/

namespace Sys2Proof.Machine

/-- Power is good: the reset ends if RESET_N is high, else the part stays in reset, the cause staying POWER (R162). -/
def State.powerOn (resetN rate : Level) (s : State) : State :=
  match resetN with
  | .high => (s.blocksReset .startUp).resetEnds .power rate
  | .low => s.blocksReset (.inReset .power)

/-- R184. -/
def execPowerOn (resetN rate : Level) (s : State) : Host.Outcome State Fault Refusal := .next (s.powerOn resetN rate)

/-- RESET_N goes low: a reset begins. It is low already where the part is in reset (log entry 16). -/
def State.resetNLow (s : State) : State :=
  match s.phase with
  | .inReset _ => s
  | .startUp => s.blocksReset (.inReset .line)
  | .running => s.blocksReset (.inReset .line)

/-- R162. -/
def execResetNLow (s : State) : Host.Outcome State Fault Refusal := .next s.resetNLow

/-- RESET_N returns high: the reset it held ends, with its cause (R162, R184). -/
def State.resetNHigh (rate : Level) (s : State) : State :=
  match s.phase with
  | .inReset cause => s.resetEnds cause rate
  | .startUp => s
  | .running => s

/-- R162. -/
def execResetNHigh (rate : Level) (s : State) : Host.Outcome State Fault Refusal := .next (s.resetNHigh rate)

/-- The end of start-up: the receiver is in HUNT and a READY notice is placed (R162). -/
def State.endStartUp (s : State) : State :=
  match s.phase with
  | .startUp =>
    { s with
      phase := .running
      link := { s.link with rxState := .hunt, readyNotice := some s.link.resetCause } }
  | .inReset _ => s
  | .running => s

/-- R162. -/
def execStartUpEnd (s : State) : Host.Outcome State Fault Refusal := .next s.endStartUp

end Sys2Proof.Machine
end

