-- ==== Sys2Proof/Machine/ScanEvents.lean ====
section
/-! DEFINITION. The events of the scan engine, the front end and the drivers: settles (R30, R47), the scan timer (R33), TRIG (R34, R35),
SYNC (R38), DOZE entry (R45), conversions (R51) and overcurrents (R60). -/

namespace Sys2Proof.Machine

/-! ### Settles -/

/-- The arming settle ends (R30). -/
def State.armingSettled (s : State) : State :=
  match s.engine.runState, s.engine.settle with
  | .arming, some (.arming expiry) =>
    let s1 := s.reach expiry
    match s.engine.mode with
    | .free => s1.scanStart
    | .triggered => { s1 with engine := { s1.engine with runState := .waiting, settle := none } }
  | _, _ => s

/-- R30. -/
def execArmingSettleEnd (s : State) : Host.Outcome State Fault Refusal := .next (s.whileRunning State.armingSettled)

/-- The wake settle ends (R47). -/
def State.wakeSettled (s : State) : State :=
  match s.engine.runState, s.engine.settle with
  | .settling, some (.wake expiry) => (s.reach expiry).scanStart
  | _, _ => s

/-- R47. -/
def execWakeSettleEnd (s : State) : Host.Outcome State Fault Refusal := .next (s.whileRunning State.wakeSettled)

/-! ### The scan timer -/

/-- The timer takes an expiry and reloads (R31). -/
def State.reloadTimer (period next : Nat) (s : State) : State :=
  let s1 := s.reach next
  { s1 with engine := { s1.engine with timer := .running period (next + period) } }

/-- What an expiry does, by run state (R33). -/
def State.onExpiry (s : State) : State :=
  match s.engine.runState with
  | .waiting => s.scanStart
  | .doze => s.enterSettling
  | .settling => s.overrun
  | .scanning => s.overrun
  | .draining => s
  | .standby => s
  | .arming => s

/-- The scan timer expires; a timer that is STOPPED does not (R31, R33). -/
def State.timerExpires (s : State) : State :=
  match s.engine.timer with
  | .stopped => s
  | .running period next => (s.reloadTimer period next).onExpiry

/-- R33. -/
def execTimerExpiry (s : State) : Host.Outcome State Fault Refusal := .next (s.whileRunning State.timerExpires)

/-! ### TRIG -/

/-- The qualifier at a transition of TRIG (R34). -/
def Qualifier.atEdge (d : DeviceConfig) (direction : Edge) (q : Qualifier) : Qualifier :=
  match q with
  | .idle => if direction = d.triggerEdge then .timing direction d.triggerMinWidth else .idle
  | .timing edge width => if direction = edge then .timing edge width else .idle

def State.trigTransition (direction : Edge) (s : State) : State :=
  { s with engine := { s.engine with qualifier := s.engine.qualifier.atEdge s.store.live.device direction } }

/-- R34. -/
def execTrigEdge (direction : Edge) (s : State) : Host.Outcome State Fault Refusal :=
  .next (s.whileRunning (State.trigTransition direction))

/-- What a trigger does, by mode and run state (R35). -/
def State.onTrigger (s : State) : State :=
  match s.engine.mode with
  | .free => s
  | .triggered =>
    match s.engine.runState with
    | .waiting => s.scanStart
    | .doze => s.enterSettling
    | .arming => s.missTrigger
    | .settling => s.missTrigger
    | .scanning => s.missTrigger
    | .draining => s.missTrigger
    | .standby => s

/-- TRIG has held for the width: a trigger is taken and the qualifier returns to IDLE (R34, R35). -/
def State.takeTrigger (s : State) : State :=
  match s.engine.qualifier with
  | .idle => s
  | .timing _ _ => State.onTrigger { s with engine := { s.engine with qualifier := .idle } }

/-- R35. -/
def execTrigger (s : State) : Host.Outcome State Fault Refusal := .next (s.whileRunning State.takeTrigger)

/-! ### SYNC -/

/-- R38. -/
def execSyncPulseEnd (s : State) : Host.Outcome State Fault Refusal :=
  .next (s.whileRunning fun s => { s with engine := { s.engine with sync := .low } })

/-! ### DOZE entry -/

/-- The report side has nothing it may offer: queue empty and tally zero, or credits 0 (R45). -/
def ReportSide.quiet (q : ReportSide) : Bool :=
  decide (q.queue = [] ∧ q.tally = none) || decide (q.credits = 0)

/-- The conditions of R45, in its order; a receiver that has had a start bit is receiving a frame, and they fail (R165). -/
def State.dozeConditions (s : State) : Bool :=
  s.store.live.device.doze && decide (s.link.holding = []) && decide (s.link.rxState = .hunt) && !s.link.startBit &&
    decide (s.link.replies = []) && decide (s.link.transmitter = .idle) && decide (s.link.readyNotice = none) &&
    !s.link.alertNotice && s.report.quiet

/-- The engine enters DOZE (R45, R153). -/
def State.enterDoze (s : State) : State :=
  let s1 := s.driversRest.setRunState .doze
  { s1 with link := { s1.link with rxState := .wakeListen } }

/-- R45. -/
def execDozeEntry (s : State) : Host.Outcome State Fault Refusal :=
  .next
    (s.whileRunning fun s =>
      if s.engine.runState = .waiting ∧ s.dozeConditions = true then s.enterDoze else s)

/-! ### Conversions and overcurrents -/

/-- The conversion in flight ends; between scans there is none (R51, R53). -/
def State.conversionEnds (code : BitVec 24) (senseGood : Bool) (choiceAfter : Option Nat) (s : State) : State :=
  match s.frontEnd.slot with
  | none => s
  | some sl =>
    if s.engine.runState.scanInProgress then s.endConversion code.toInt senseGood choiceAfter sl else s

/-- R51. -/
def execConversionEnd (code : BitVec 24) (senseGood : Bool) (choiceAfter : Option Nat) (s : State) :
    Host.Outcome State Fault Refusal :=
  .next (s.whileRunning (State.conversionEnds code senseGood choiceAfter))

/-- An overcurrent trips a driver that is ON (R60). -/
def State.overcurrent (g : Group) (s : State) : State :=
  if s.drivers.get g = .on then { s with drivers := s.drivers.put .tripped g }.latch (.excitationTrip g) else s

/-- R60. -/
def execOvercurrent (g : Group) (s : State) : Host.Outcome State Fault Refusal :=
  .next (s.whileRunning (State.overcurrent g))

end Sys2Proof.Machine
end

