-- ==== Sys2Proof/Machine/ScanRequests.lean ====
section
/-! DEFINITION. The requests of the scan engine: START (R188), STOP (R189) and ABORT (R171). -/

namespace Sys2Proof.Machine

/-! ### START -/

/-- The own checks of START and its operands (R28, R188). -/
def startOperands (r : RunState) (body : List Byte) : Except Rejection (Mode × Nat) :=
  match body with
  | [m, l1, l0] =>
    match Mode.ofCode m with
    | none => .error ⟨.outOfRange, 0, 0⟩
    | some mode =>
      if r ≠ .standby then .error ⟨.wrongState, 0, noIndex⟩ else .ok (mode, natOfBytes2 l1 l0)
  | _ => .error ⟨.badLength, 0, noIndex⟩

/-- START triggers its channel (R87). -/
def startTriggers (cfg : ChannelConfig) : Bool :=
  cfg.enabled && decide (cfg.zeroMode = .track) && cfg.startTrigger

/-- START triggers (R87). -/
def State.takeStartTriggers (s : State) : State :=
  { s with
    trackers := .ofFn fun n =>
      if startTriggers s.store.live.channels[n] then s.trackers[n].hardTrigger .start s.engine.scanCounter
      else s.trackers[n] }

/-- The effect of a START taken (R29). -/
def State.beginRun (mode : Mode) (limit : Nat) (s : State) : State :=
  let s1 := s.driversStart.takeStartTriggers
  { s1 with
    engine :=
      { s1.engine with
        mode := mode
        scanLimit := limit
        scansSinceStart := 0
        runState := .arming
        settle := some (.arming (s1.now + s1.store.live.device.settleTime)) } }

def ownStart (f : Frame) (s : State) : State :=
  match startOperands s.engine.runState f.body with
  | .error r => s.refuse .start f r
  | .ok (mode, limit) =>
    let s1 := s.beginRun mode limit
    s1.accept .start f (s1.engine.runState.code :: bytes4 s1.engine.scanCounter)

/-- R188. -/
def execStart (s : State) : Host.Outcome State Fault Refusal := .next (s.execute .start ownStart)

/-! ### STOP -/

/-- The effect of STOP by run state (R42). -/
def State.stopRun (s : State) : State :=
  match s.engine.runState with
  | .scanning => s.setRunState .draining
  | .arming => s.enterStandby
  | .waiting => s.enterStandby
  | .doze => s.enterStandby
  | .settling => s.enterStandby
  | .standby => s
  | .draining => s

def ownStop (f : Frame) (s : State) : State :=
  let s1 := s.stopRun
  s1.accept .stop f [s1.engine.runState.code]

/-- R189. -/
def execStop (s : State) : Host.Outcome State Fault Refusal := .next (s.execute .stop ownStop)

/-! ### ABORT -/

/-- The effect of ABORT by run state (R43). -/
def State.abortRun (s : State) : State :=
  match s.engine.runState with
  | .scanning => s.abortScan.enterStandby
  | .draining => s.abortScan.enterStandby
  | .arming => s.enterStandby
  | .waiting => s.enterStandby
  | .doze => s.enterStandby
  | .settling => s.enterStandby
  | .standby => s

def ownAbort (f : Frame) (s : State) : State :=
  let s1 := s.abortRun
  let aborted := s.engine.runState.scanInProgress
  s1.accept .abort f
    ([s1.engine.runState.code, flagByte aborted] ++ bytes4 (if aborted then s.engine.scanCounter else 0))

/-- R171. -/
def execAbort (s : State) : Host.Outcome State Fault Refusal := .next (s.execute .abort ownAbort)

end Sys2Proof.Machine
end

