-- ==== Sys2Proof/Machine/SessionRequests.lean ====
section
/-! DEFINITION. The requests of the session and the part as a whole: HELLO (R176), GET_STATE (R174), RESET (R183), READ_COUNTERS (R180), and
the executor's answers to a frame of unknown kind (R168) and to a duplicate (R157). -/

namespace Sys2Proof.Machine

/-! ### HELLO -/

/-- The body of HELLO: a policy and the initial credits, checked in order (R176). -/
def helloOperands (body : List Byte) : Except Rejection (Policy × Nat) :=
  match body with
  | [p, c1, c0] =>
    match Policy.ofCode p with
    | none => .error ⟨.outOfRange, 0, 0⟩
    | some policy =>
      if Config.maxCredits < natOfBytes2 c1 c0 then .error ⟨.outOfRange, 0, 1⟩
      else .ok (policy, natOfBytes2 c1 c0)
  | _ => .error ⟨.badLength, 0, noIndex⟩

/-- The contents of the HELLO reply (R176). -/
def helloContents (previous : Session) (cause : ResetCause) : List Byte :=
  previous.code ::
    (bytes2 Config.vendorCode ++ bytes2 Config.partCode ++
      [Config.siliconRevision, byteOf Config.channelCount, byteOf Config.slotCount, byteOf Config.subscriptions,
        byteOf Config.queueEntries, byteOf Config.stagedEdits, cause.code])

/-- The effects of HELLO before its reply (R176). -/
def State.openSession (policy : Policy) (credits : Nat) (s : State) : State :=
  { s with
    session := .opened
    store := { s.store with staging := [] }
    subs := []
    report := s.report.reopen policy credits }.withdrawAlert

def ownHello (f : Frame) (s : State) : State :=
  match helloOperands f.body with
  | .error r => s.refuse .hello f r
  | .ok (policy, credits) =>
    ((s.openSession policy credits).accept .hello f (helloContents s.session s.link.resetCause)).renewAlert

/-- R176. -/
def execHello (s : State) : Host.Outcome State Fault Refusal := .next (s.execute .hello ownHello)

/-! ### GET_STATE -/

/-- The count of the loss tally, 0 when it is zero (R174). -/
def tallyCount (t : Option Loss) : Nat :=
  match t with
  | none => 0
  | some l => l.count

/-- The contents of the GET_STATE reply, in order (R174). -/
def State.stateContents (s : State) : List Byte :=
  [s.session.code, s.engine.runState.code, s.engine.mode.code] ++ bytes2OfNat s.engine.scanLimit ++
    bytes4 s.engine.scansSinceStart ++ bytes4 s.engine.scanCounter ++ bytes2 s.store.epoch ++
    bytes2 s.store.batchEpoch ++
    [byteOf s.store.staging.length, byteOf s.report.credits, byteOf s.report.queue.length] ++
    bytes2OfNat (tallyCount s.report.tally) ++
    [byteOf s.alerts.entries.length, flagByte s.alerts.noticeOutstanding, s.drivers.a.code, s.drivers.b.code]

def ownGetState (f : Frame) (s : State) : State := s.accept .getState f s.stateContents

/-- R174. -/
def execGetState (s : State) : Host.Outcome State Fault Refusal := .next (s.execute .getState ownGetState)

/-! ### RESET -/

def ownReset (f : Frame) (s : State) : State :=
  let s1 := s.accept .reset f []
  { s1 with link := { s1.link with resetTaken := true } }

/-- R183. -/
def execReset (s : State) : Host.Outcome State Fault Refusal := .next (s.execute .reset ownReset)

/-! ### READ_COUNTERS -/

/-- The nineteen counters in order (R180). -/
def State.counterValues (s : State) : List Word32 :=
  let e := s.engine.counters
  let r := s.report.counters
  let l := s.link.counters
  [e.started, e.completed, e.aborted, e.overruns, e.triggersMissed, r.created, r.sent, r.gapsSent, r.lost, r.discarded,
    l.framesAccepted, l.crcErrors, l.lengthErrors, l.charTimeouts, l.rxOverflows, l.wakeDiscards, l.breaks,
    l.duplicates, l.noticesSent]

def ownReadCounters (f : Frame) (s : State) : State :=
  s.accept .readCounters f (s.counterValues.flatMap bytes4)

/-- R180. -/
def execReadCounters (s : State) : Host.Outcome State Fault Refusal := .next (s.execute .readCounters ownReadCounters)

/-! ### A frame of unknown kind, and a duplicate -/

/-- R168: common check 1. -/
def State.executeUnknown (s : State) : State :=
  match s.frameToTake with
  | none => s
  | some f =>
    if s.link.isDuplicate f = false ∧ RequestKind.ofCode f.kind = none then
      s.takeHead.answer f unknownReplyCode (Rejection.body ⟨.unknownKind, 0, noIndex⟩)
    else s

/-- R168. -/
def execUnknownKind (s : State) : Host.Outcome State Fault Refusal := .next s.executeUnknown

/-- A duplicate is answered with a copy of the cached reply (R157). -/
def State.answerDuplicate (s : State) : State :=
  match s.frameToTake, s.link.memory with
  | some f, some m =>
    if s.link.isDuplicate f then
      let s1 := s.takeHead.queueReply m.reply
      { s1 with
        link :=
          { s1.link with counters := { s1.link.counters with duplicates := s1.link.counters.duplicates + 1 } } }
    else s
  | _, _ => s

/-- R157. -/
def execDuplicate (s : State) : Host.Outcome State Fault Refusal := .next s.answerDuplicate

end Sys2Proof.Machine
end

