-- ==== Sys2Proof/Machine/Dispatch.lean ====
section
/-! DEFINITION. The meaning of each command, one arm per row of spec/opcode_table.json. -/

namespace Sys2Proof.Machine

/-- The effect of a command on everything but the queue of commands. -/
def exec (i : Instr) (s : State) : Host.Outcome State Fault Refusal :=
  match i with
  | .hello => Sys2Proof.Machine.execHello s
  | .getState => Sys2Proof.Machine.execGetState s
  | .reset => Sys2Proof.Machine.execReset s
  | .stage => Sys2Proof.Machine.execStage s
  | .discard => Sys2Proof.Machine.execDiscard s
  | .seal => Sys2Proof.Machine.execSeal s
  | .readConfig => Sys2Proof.Machine.execReadConfig s
  | .start => Sys2Proof.Machine.execStart s
  | .stop => Sys2Proof.Machine.execStop s
  | .abort => Sys2Proof.Machine.execAbort s
  | .retrack => Sys2Proof.Machine.execRetrack s
  | .readTracker => Sys2Proof.Machine.execReadTracker s
  | .readResults => Sys2Proof.Machine.execReadResults s
  | .subscribe => Sys2Proof.Machine.execSubscribe s
  | .unsubscribe => Sys2Proof.Machine.execUnsubscribe s
  | .listSubscriptions => Sys2Proof.Machine.execListSubscriptions s
  | .grant => Sys2Proof.Machine.execGrant s
  | .ackAlerts => Sys2Proof.Machine.execAckAlerts s
  | .readAlerts => Sys2Proof.Machine.execReadAlerts s
  | .readCounters => Sys2Proof.Machine.execReadCounters s
  | .unknownKind => Sys2Proof.Machine.execUnknownKind s
  | .duplicate => Sys2Proof.Machine.execDuplicate s
  | .frameArrival crcLow => Sys2Proof.Machine.execFrameArrival crcLow s
  | .lengthError len => Sys2Proof.Machine.execLengthError len s
  | .characterTimeout => Sys2Proof.Machine.execCharacterTimeout s
  | .breakDetected rate => Sys2Proof.Machine.execBreakDetected rate s
  | .breakEnd => Sys2Proof.Machine.execBreakEnd s
  | .wake => Sys2Proof.Machine.execWake s
  | .wakeQuietEnd => Sys2Proof.Machine.execWakeQuietEnd s
  | .arbiterChoice => Sys2Proof.Machine.execArbiterChoice s
  | .transmitEnd rate => Sys2Proof.Machine.execTransmitEnd rate s
  | .powerOn resetN rate => Sys2Proof.Machine.execPowerOn resetN rate s
  | .resetNLow => Sys2Proof.Machine.execResetNLow s
  | .resetNHigh rate => Sys2Proof.Machine.execResetNHigh rate s
  | .startUpEnd => Sys2Proof.Machine.execStartUpEnd s
  | .armingSettleEnd => Sys2Proof.Machine.execArmingSettleEnd s
  | .timerExpiry => Sys2Proof.Machine.execTimerExpiry s
  | .trigEdge direction => Sys2Proof.Machine.execTrigEdge direction s
  | .trigger => Sys2Proof.Machine.execTrigger s
  | .wakeSettleEnd => Sys2Proof.Machine.execWakeSettleEnd s
  | .syncPulseEnd => Sys2Proof.Machine.execSyncPulseEnd s
  | .conversionEnd code senseGood choiceAfter => Sys2Proof.Machine.execConversionEnd code senseGood choiceAfter s
  | .dozeEntry => Sys2Proof.Machine.execDozeEntry s
  | .overcurrent group => Sys2Proof.Machine.execOvercurrent group s
  | .characterReceived c => Sys2Proof.Machine.execCharacterReceived c s

end Sys2Proof.Machine
end

