-- ==== Sys2Proof/Machine/Queue.lean ====
section
/-! DEFINITION. The queue of commands that wait, first in, first out. -/

namespace Sys2Proof.Machine

/-- A command put at the front of the queue. -/
def State.pushFront (i : Instr) (s : State) : State := { s with pending := i :: s.pending }

/-- The state without its queue's front. -/
def State.popFront (s : State) : State := { s with pending := s.pending.tail }

end Sys2Proof.Machine
end

