-- ==== Sys2Proof/Safety.lean ====
section
/-! DEFINITION. The terms of the claims: when the executor takes a request and what its answer leaves, and the laws of the BN16
that every step keeps (the bold laws of the manual and the relations its tables state). -/

namespace Sys2Proof.Machine

/-! ### Requests and their answers -/

/-- The command that executes a request of a kind. -/
def RequestKind.command : RequestKind → Instr
  | .hello => .hello
  | .getState => .getState
  | .reset => .reset
  | .stage => .stage
  | .discard => .discard
  | .seal => .seal
  | .readConfig => .readConfig
  | .start => .start
  | .stop => .stop
  | .abort => .abort
  | .retrack => .retrack
  | .readTracker => .readTracker
  | .readResults => .readResults
  | .subscribe => .subscribe
  | .unsubscribe => .unsubscribe
  | .listSubscriptions => .listSubscriptions
  | .grant => .grant
  | .ackAlerts => .ackAlerts
  | .readAlerts => .readAlerts
  | .readCounters => .readCounters

/-- A command by which the executor executes a request: one of the twenty, or UNKNOWN_KIND (R157, R168). -/
def RequestCommand (c : Instr) : Prop := c = .unknownKind ∨ ∃ k : RequestKind, c = k.command

/-- The executor takes `f`: the head of the holding, with a place for its reply and RESET taken clear (R156). -/
structure Takes (f : Frame) (s : State) : Prop where
  running : s.phase = .running
  head : s.link.holding.head? = some f
  room : s.link.replies.length < 2
  clear : s.link.resetTaken = false

/-- A remembered request equals a frame in SEQ, KIND and CRC (R157). -/
def Remembered.sameAs (m : Remembered) (f : Frame) : Prop := m.seq = f.seq ∧ m.kind = f.kind ∧ m.crc = f.crc

/-- The executor executes `f`: it takes it, and it is no duplicate (R157). -/
structure Executes (f : Frame) (s : State) : Prop where
  takes : Takes f s
  fresh : ∀ m, s.link.memory = some m → ¬ m.sameAs f

/-- The session allows a request of a kind (R166). -/
def SessionAllows (k : RequestKind) (s : State) : Prop :=
  s.session = .opened ∨ k = .hello ∨ k = .getState ∨ k = .reset

/-- The body lengths that are well formed for a kind: the table of R167. -/
def WellFormedBody (k : RequestKind) (body : List Byte) : Prop :=
  match k with
  | .hello => body.length = 3
  | .getState => body.length = 0
  | .reset => body.length = 0
  | .stage => ∃ j, 1 ≤ j ∧ j ≤ 32 ∧ body.length = 6 * j
  | .discard => body.length = 0
  | .seal => body.length = 0
  | .readConfig => ∃ j, 1 ≤ j ∧ j ≤ 24 ∧ body.length = 1 + 2 * j
  | .start => body.length = 3
  | .stop => body.length = 0
  | .abort => body.length = 0
  | .retrack => ∃ j, 1 ≤ j ∧ j ≤ 16 ∧ body.length = 1 + j
  | .readTracker => 1 ≤ body.length ∧ body.length ≤ 4
  | .readResults => 1 ≤ body.length ∧ body.length ≤ 8
  | .subscribe => body.length = 16
  | .unsubscribe => body.length = 1
  | .listSubscriptions => body.length = 1
  | .grant => body.length = 1
  | .ackAlerts => body = [1#8] ∨ ∃ keys, body = 0#8 :: keys ∧ 1 ≤ keys.length ∧ keys.length ≤ 38
  | .readAlerts => body.length = 1
  | .readCounters => body.length = 0

/-- A frame of a kind passes the duplicate memory and the common checks (R168). -/
structure Admits (k : RequestKind) (f : Frame) (s : State) : Prop where
  executes : Executes f s
  named : f.kind = k.code
  session : SessionAllows k s
  length : WellFormedBody k f.body

/-- What answering a frame leaves of `s`: the frame has left the holding, its reply is at the tail of the reply queue, and the
duplicate memory holds both (R156 to R158). -/
def answered (f : Frame) (kind : Byte) (body : List Byte) (s : State) : State :=
  { s with
    link :=
      { s.link with
        holding := s.link.holding.tail
        replies := s.link.replies ++ [⟨f.seq, kind, body⟩]
        memory := some ⟨f.seq, f.kind, f.crc, ⟨f.seq, kind, body⟩⟩ } }

/-- What a refusal leaves: the three bytes of R170, and nothing else changed. -/
def refusedWith (f : Frame) (status check index : Byte) (s : State) : State :=
  answered f (f.kind + 0x80) [status, check, index] s

/-! ### Alerts -/

/-- The alert set after several latches at one scan counter value, and whether any was made (R133). -/
def latchesInto (keys : List AlertKey) (scan : Word32) (entries : List AlertEntry) : List AlertEntry :=
  keys.foldl (fun es k => latchInto k scan es) entries

/-- What latches of `keys` leave of `s` (R133, R136): the entries, and a notice where one was made with notice_outstanding
clear. -/
def latched (keys : List AlertKey) (s : State) : State :=
  { s with
    alerts :=
      { entries := latchesInto keys s.engine.scanCounter s.alerts.entries
        noticeOutstanding := s.alerts.noticeOutstanding || !keys.isEmpty }
    link := { s.link with alertNotice := s.link.alertNotice || (!s.alerts.noticeOutstanding && !keys.isEmpty) } }

/-- Entries in strictly ascending key index, each with 1 to 65535 occurrences (R132). -/
def AlertEntriesLaw (entries : List AlertEntry) : Prop :=
  entries.Pairwise (fun a b => a.key.index < b.key.index) ∧ ∀ e ∈ entries, 1 ≤ e.occurrences ∧ e.occurrences ≤ 65535

/-- The alert unit's law (R132, R136, R137, R138): the entries, notice_outstanding exactly while the set is nonempty, and a
waiting notice only while it is outstanding. -/
structure AlertLaw (s : State) : Prop where
  entries : AlertEntriesLaw s.alerts.entries
  outstanding : s.alerts.noticeOutstanding = true ↔ s.alerts.entries ≠ []
  waiting : s.link.alertNotice = true → s.alerts.noticeOutstanding = true

/-! ### The link (R158, R160) -/

structure LinkLaw (s : State) : Prop where
  holding : s.link.holding.length ≤ 2
  replies : s.link.replies.length ≤ 2

/-! ### Held at the reset values (R162) -/

/-- The state whose every block has its reset value, with the commands that wait, the phase, the reset cause and the rate given. -/
def atReset (pending : List Instr) (phase : Phase) (cause : ResetCause) (rate : LinkRate) : State :=
  { State.reset with pending := pending, phase := phase, link := { Link.reset with resetCause := cause, rate := rate } }

/-- In reset and through start-up every block holds its reset values, and the receiver is inactive exactly then. -/
structure StartUpLaw (s : State) : Prop where
  held : s.phase ≠ .running → s = atReset s.pending s.phase s.link.resetCause s.link.rate
  active : s.phase = .running → s.link.rxState ≠ .inactive

/-! ### The report queue (R117, R121, R122, R128) -/

def LossLaw (l : Loss) : Prop := 1 ≤ l.count ∧ l.count ≤ 65535

structure QueueLaw (q : ReportSide) : Prop where
  length : q.queue.length ≤ 48
  tallyFull : q.tally ≠ none → q.queue.length = 48
  tally : ∀ l, q.tally = some l → LossLaw l
  gaps : ∀ l, .gap l ∈ q.queue → LossLaw l ∧ q.policy = .dropNewest
  credits : q.credits ≤ 255

/-- The number of REPORT entries a queue holds. -/
def reportEntries : List QueueEntry → Nat
  | [] => 0
  | .report _ :: rest => reportEntries rest + 1
  | .gap _ :: rest => reportEntries rest

/-- The account of R128, modulo 2^32. -/
def Account (q : ReportSide) : Prop :=
  q.counters.created =
    q.counters.sent + q.counters.lost + q.counters.discarded + BitVec.ofNat 32 (reportEntries q.queue)

/-! ### Subscriptions (R97, R98) -/

def ValueRange (v : Int) : Prop := -8388607 ≤ v ∧ v ≤ 8388607

def ConditionLaw : Condition → Prop
  | .every n => 1 ≤ n ∧ n ≤ 1000
  | .deadband d => 1 ≤ d ∧ d ≤ 8388607
  | .limit low high hysteresis =>
    ValueRange low ∧ ValueRange high ∧ low < high ∧ 0 ≤ hysteresis ∧ hysteresis ≤ 8388607 ∧
      2 * hysteresis ≤ high - low

/-- The evaluation state a condition uses, the fields it does not use at their creation values (R98). -/
def EvaluationLaw (e : Subscription) : Prop :=
  match e.condition with
  | .every n => e.scansCounted < n ∧ e.lastReported = none ∧ e.zone = .unknown
  | .deadband _ => e.scansCounted = 0 ∧ (∀ v, e.lastReported = some v → ValueRange v) ∧ e.zone = .unknown
  | .limit _ _ _ => e.scansCounted = 0 ∧ e.lastReported = none

structure SubscriptionsLaw (subs : List Subscription) : Prop where
  sorted : subs.Pairwise fun a b => a.id < b.id
  ids : ∀ e ∈ subs, 1 ≤ e.id ∧ e.id ≤ 24
  conditions : ∀ e ∈ subs, ConditionLaw e.condition
  evaluation : ∀ e ∈ subs, EvaluationLaw e

/-! ### The configuration (R8, R9, R15 to R20) -/

/-- Slot `i` stands in the plan of a configuration (R5). -/
def Configuration.InPlan (c : Configuration) (i : Fin 32) : Prop := i.val < c.device.planLength

/-- Check 2 fails at slot `i` (R15). -/
def Configuration.BadSlot (c : Configuration) (i : Fin 32) : Prop :=
  c.InPlan i ∧ c.channels[c.slots[i].channel].enabled = false

/-- Check 3 fails at channel `n` (R15). -/
def Configuration.Uncovered (c : Configuration) (n : Fin 16) : Prop :=
  c.channels[n].enabled = true ∧ c.channels[n].zeroMode = .track ∧
    ∀ i, c.InPlan i → ¬ (c.slots[i].kind = .reference ∧ c.slots[i].channel = n)

/-- Check 4 fails at channel `n` (R16). -/
def Configuration.BadThresholds (c : Configuration) (n : Fin 16) : Prop :=
  c.channels[n].softThreshold ≠ 65535 ∧ c.channels[n].hardThreshold ≠ 65535 ∧
    c.channels[n].hardThreshold ≤ c.channels[n].softThreshold

/-- Check 5 fails at channel `n` (R16). -/
def Configuration.BadFixedOffset (c : Configuration) (n : Fin 16) : Prop :=
  c.channels[n].zeroMode = .fixed ∧ c.channels[n].maxCorrection < c.channels[n].fixedOffset.natAbs

/-- The level of the group channel `n` belongs to (R2, R4). -/
def Configuration.levelOf (c : Configuration) (n : Fin 16) : ExciteLevel :=
  match c.channels[n].exciteGroup with
  | .a => c.device.exciteALevel
  | .b => c.device.exciteBLevel

/-- Check 6 fails at channel `n` (R16). -/
def Configuration.Unexcited (c : Configuration) (n : Fin 16) : Prop :=
  (∃ i, c.InPlan i ∧ c.slots[i].channel = n) ∧ c.levelOf n = .off

/-- The scan duration in µs: over the slots of the plan, discards and oversample conversions of 200 µs each (R6). -/
def Configuration.planTime (c : Configuration) : Nat :=
  (((List.finRange 32).filter fun i => decide (i.val < c.device.planLength)).map fun i : Fin 32 =>
    (c.slots[i].discards + c.channels[c.slots[i].channel].oversample) * 200).sum

/-- The scan period in µs: period_count times two to period_scale, in units of 100 µs (R3). -/
def Configuration.scanPeriod (c : Configuration) : Nat := c.device.periodCount * 2 ^ c.device.periodScale * 100

/-- Seal checks 2 to 7 pass (R15 to R17). -/
structure PassesChecks (c : Configuration) : Prop where
  planChannel : ∀ i, ¬ c.BadSlot i
  referenceCover : ∀ n, ¬ c.Uncovered n
  thresholds : ∀ n, ¬ c.BadThresholds n
  fixedRange : ∀ n, ¬ c.BadFixedOffset n
  excitation : ∀ n, ¬ c.Unexcited n
  duration : c.planTime < c.scanPeriod

/-- The lowest number with a property. -/
def IsLowest {size : Nat} (p : Fin size → Prop) (index : Nat) : Prop :=
  ∃ i : Fin size, i.val = index ∧ p i ∧ ∀ j, j < i → ¬ p j

/-- A seal check fails, with the index its refusal carries (R15 to R17, R186). -/
def Configuration.FailsAt (c : Configuration) (check index : Nat) : Prop :=
  (check = 2 ∧ IsLowest c.BadSlot index) ∨ (check = 3 ∧ IsLowest c.Uncovered index) ∨
    (check = 4 ∧ IsLowest c.BadThresholds index) ∨ (check = 5 ∧ IsLowest c.BadFixedOffset index) ∨
      (check = 6 ∧ IsLowest c.Unexcited index) ∨ (check = 7 ∧ index = 255 ∧ c.scanPeriod ≤ c.planTime)

/-- Every field holds a value of its range (R1). -/
def InRange (c : Configuration) : Prop := ∀ f : FieldRef, f.inRange (c.get f) = true

/-- Edits of distinct fields with checked values (R9). -/
structure EditsLaw (es : List Edit) : Prop where
  distinct : es.Pairwise fun a b => a.field ≠ b.field
  checked : ∀ e ∈ es, e.field.inRange e.value = true

/-- The store's laws; `standby` says whether the scan engine is in STANDBY. -/
structure StoreLaw (standby : Prop) (st : ConfigStore) : Prop where
  inRange : InRange st.live
  passes : PassesChecks st.live
  staging : EditsLaw st.staging
  staged : st.staging.length ≤ 64
  epoch : ∀ b, st.batch = some b → b.epoch = if st.epoch = 65535 then 1 else st.epoch + 1
  edits : ∀ b, st.batch = some b → EditsLaw b.edits ∧ ∀ e ∈ b.edits, e.field.standbyOnly = false
  prospect : ∀ b, st.batch = some b → PassesChecks (st.live.applyEdits b.edits)
  noBatch : standby → st.batch = none

def ConfigLaw (s : State) : Prop := StoreLaw (s.engine.runState = .standby) s.store

/-! ### The scan engine, the drivers and the front end -/

/-- A scan is in progress (R26). -/
def InScan (s : State) : Prop := s.engine.runState = .scanning ∨ s.engine.runState = .draining

/-- The relations of R26, R27, R46, R48 and R53 between the run state and what the engine and the front end hold. -/
structure EngineLaw (s : State) : Prop where
  counted : s.engine.counters.started =
    s.engine.counters.completed + s.engine.counters.aborted +
      (if s.engine.runState = .scanning ∨ s.engine.runState = .draining then 1 else 0)
  numbered : s.engine.scanCounter = s.engine.counters.started
  timer : s.engine.timer ≠ .stopped ↔
    s.engine.mode = .free ∧ s.engine.runState ≠ .standby ∧ s.engine.runState ≠ .arming
  arming : (∃ t, s.engine.settle = some (.arming t)) ↔ s.engine.runState = .arming
  settling : (∃ t, s.engine.settle = some (.wake t)) ↔ s.engine.runState = .settling
  slot : s.frontEnd.slot ≠ none ↔ InScan s
  lists : ¬ InScan s → ∀ n : Fin 16, s.frontEnd.measure[n] = [] ∧ s.frontEnd.reference[n] = []
  listening : s.link.rxState = .wakeListen ↔ s.engine.runState = .doze

/-- R58. -/
def DriverLaw (s : State) : Prop :=
  s.drivers.a = .on ∨ s.drivers.b = .on → s.engine.runState ≠ .standby ∧ s.engine.runState ≠ .doze

/-- A valid reading's value, a window value and an estimate lie here (R55, R68). -/
def CodeRange (v : Int) : Prop := -8388607 ≤ v ∧ v ≤ 8388606

/-- The running sum of a slot against the counted conversions it has made (R53 to R55). -/
structure SlotLaw (sl : SlotInFlight) : Prop where
  oversample : 1 ≤ sl.oversample
  left : 1 ≤ sl.left
  discard : sl.phase = .discard → sl.sum = 0 ∧ sl.sawOpen = false ∧ sl.sawSaturated = false
  count : sl.phase = .count → sl.left ≤ sl.oversample ∧
    -8388607 * ((sl.oversample - sl.left : Nat) : Int) ≤ sl.sum ∧
      sl.sum ≤ 8388606 * ((sl.oversample - sl.left : Nat) : Int)

/-- The readings of the scan in progress: their values, and no more of them than slots walked (R55, R56). -/
structure ReadingsLaw (walked : Nat) (f : FrontEnd) : Prop where
  measure : ∀ n : Fin 16, ∀ v ∈ validValues f.measure[n], CodeRange v
  reference : ∀ n : Fin 16, ∀ v ∈ validValues f.reference[n], CodeRange v
  counts : ∀ n : Fin 16, f.measure[n].length + f.reference[n].length ≤ walked

/-- The ranges of R62, with raw_mean, corrected and value absent exactly where NO_VALUE is set. -/
structure ResultLaw (r : ChannelResult) : Prop where
  measured : ∀ m, r.measured = some m → CodeRange m.rawMean ∧ ValueRange m.corrected ∧ ValueRange m.value
  noValue : r.flags.noValue = true ↔ r.measured = none
  offset : -1048575 ≤ r.offsetUsed ∧ r.offsetUsed ≤ 1048575
  counts : r.measureCount + r.referenceCount ≤ 32

structure FrontEndLaw (s : State) : Prop where
  slot : ∀ sl, s.frontEnd.slot = some sl →
    SlotLaw sl ∧ sl.number < s.store.live.device.planLength ∧ ReadingsLaw sl.number s.frontEnd
  snapshot : ∀ n : Fin 16, -1048575 ≤ s.engine.snapshot[n] ∧ s.engine.snapshot[n] ≤ 1048575
  results : ∀ n : Fin 16, ∀ r, s.frontEnd.results[n] = some r → ResultLaw r

/-! ### The offset tracker (R68 to R70) -/

/-- The table of R69. -/
def TrackerStateLaw (cfg : ChannelConfig) (t : Tracker) : Prop :=
  match t.state with
  | .off => cfg.zeroMode = .fixed ∧ t.window = [] ∧ t.remaining = 0 ∧ t.appliedOffset = cfg.fixedOffset
  | .hardPending => cfg.zeroMode = .track ∧ t.window = [] ∧ t.remaining = 0
  | .following => cfg.zeroMode = .track ∧ t.window ≠ [] ∧ 1 ≤ t.remaining ∧ t.remaining ≤ 254 ∧ cfg.followScans ≤ 254
  | .holding => cfg.zeroMode = .track ∧ t.window ≠ [] ∧ t.remaining = 0 ∧ cfg.followScans ≤ 254
  | .continuous => cfg.zeroMode = .track ∧ t.window ≠ [] ∧ t.remaining = 0 ∧ cfg.followScans = 255

structure RecordLaw (cfg : ChannelConfig) (t : Tracker) : Prop where
  state : TrackerStateLaw cfg t
  bounded : t.appliedOffset.natAbs ≤ cfg.maxCorrection
  window : t.window.length ≤ 8
  values : ∀ v ∈ t.window, CodeRange v
  estimate : ∀ v, t.lastEstimate = some v → CodeRange v

def TrackerLaw (s : State) : Prop := ∀ n : Fin 16, RecordLaw s.store.live.channels[n] s.trackers[n]

/-! ### Bodies of requests -/

/-- The edit descriptor of an edit (R194). -/
def Edit.descriptor (e : Edit) : List Byte := [byteOf e.field.target.code, byteOf e.field.id] ++ bytesOfInt e.value

/-- Edits without those that a later one for the same field replaces (R11). -/
def lastOfEach : List Edit → List Edit
  | [] => []
  | e :: rest => if rest.any (fun x => decide (x.field = e.field)) then lastOfEach rest else e :: lastOfEach rest

/-- The staging set that STAGE makes: what no edit of the request replaces, then the last edit for each field (R11). -/
def stagedAfter (staging es : List Edit) : List Edit :=
  staging.filter (fun x => es.all fun e => decide (e.field ≠ x.field)) ++ lastOfEach es

/-- An item of READ_CONFIG: a whole target or one field (R24, R179). -/
inductive ConfigItem where
  | whole (t : Target)
  | one (f : FieldRef)
deriving DecidableEq, Repr

def ConfigItem.bytes : ConfigItem → List Byte
  | .whole t => [byteOf t.code, 0]
  | .one f => [byteOf f.target.code, byteOf f.id]

def ConfigItem.fields : ConfigItem → List FieldRef
  | .whole t => t.fields
  | .one f => [f]

/-- The edits a view lays over the live values (R24). -/
def shownEdits (st : ConfigStore) (v : View) : List Edit :=
  match v, st.batch with
  | .live, _ => []
  | .staged, _ => st.staging
  | .sealed, none => []
  | .sealed, some b => b.edits

/-- A field as READ_CONFIG returns it: target, id, value, source, SEQ (R24, R179). -/
def shownField (st : ConfigStore) (v : View) (f : FieldRef) : List Byte :=
  byteOf f.target.code :: byteOf f.id ::
    match (shownEdits st v).find? fun e => decide (e.field = f) with
    | some e => bytesOfInt e.value ++ [v.code, e.seq]
    | none => bytesOfInt (st.live.get f) ++ [0, 0]

/-- A value that four bytes carry (R192). -/
def FourBytes (v : Int) : Prop := -2147483648 ≤ v ∧ v ≤ 2147483647

/-- The condition a kind and its parameters name; what it does not use is free (R98, R190). -/
def NamesCondition (kind : Byte) (p1 p2 p3 : Int) : Condition → Prop
  | .every n => kind = 0 ∧ p1 = n
  | .deadband d => kind = 1 ∧ p1 = d
  | .limit low high hysteresis => kind = 2 ∧ p1 = low ∧ p2 = high ∧ p3 = hysteresis

/-! ### Expected records -/

/-- A hard trigger's effect on a record (R82, R83). -/
def hardTriggered (kind : TriggerKind) (scan : Word32) (t : Tracker) : Tracker :=
  { t with
    window := []
    remaining := 0
    state := .hardPending
    lastTrigger := some ⟨kind, scan⟩
    triggerCount := t.triggerCount + 1 }

/-- The driver of a group after an entry into STANDBY or DOZE (R59). -/
def restedDriver (d : DriverState) : DriverState := if d = .tripped then .tripped else .off

/-- The driver of a group after a wake or an entry into SETTLING (R59). -/
def wokenDriver (level : ExciteLevel) (d : DriverState) : DriverState :=
  match d, level with
  | .tripped, _ => .tripped
  | .on, _ => .on
  | .off, .off => .off
  | .off, _ => .on

/-- Entry into STANDBY with no batch waiting (R44, R154). -/
def inStandby (s : State) : State :=
  { s with
    drivers := ⟨restedDriver s.drivers.a, restedDriver s.drivers.b⟩
    engine := { s.engine with timer := .stopped, settle := none, runState := .standby }
    link := { s.link with rxState := if s.link.rxState = .wakeListen then .hunt else s.link.rxState } }

/-- Entry into SETTLING (R46, R47). -/
def inSettling (s : State) : State :=
  { s with
    drivers :=
      ⟨wokenDriver s.store.live.device.exciteALevel s.drivers.a, wokenDriver s.store.live.device.exciteBLevel s.drivers.b⟩
    engine :=
      { s.engine with
        runState := .settling
        settle := some (.wake (s.now + 1000 * s.store.live.device.armSettleMs)) }
    link := { s.link with rxState := if s.link.rxState = .wakeListen then .hunt else s.link.rxState } }

/-- A character has ended at its stop bit. -/
def characterOver (s : State) : State := { s with link := { s.link with startBit := false } }

/-- One place toward the most significant end with a 0 entering; the generator 0x1021 where a 1 was shifted out (R146). -/
def shiftedOut (reg : Word16) : Word16 := if reg.msb = true then (reg <<< 1) ^^^ 0x1021 else reg <<< 1

/-- The receiver gives up its frame and returns to HUNT. -/
def inHunt (s : State) : State := { s with link := { s.link with rxState := .hunt, rxFrame := none } }

/-- The frame that carries a notice, and the notice's number and count (R160). -/
def noticeBegun (kind : Byte) (body : List Byte) (s : State) : State :=
  { s with
    link :=
      { s.link with
        transmitter := .sending (makeFrame s.link.noticeSeq kind body)
        noticeSeq := s.link.noticeSeq + 1
        counters := { s.link.counters with noticesSent := s.link.counters.noticesSent + 1 } } }

/-- Whether a reply or the frame that carries it is that of a RESET that was taken: KIND 0x83 and status OK (log entry 20). -/
def IsResetReply (kind : Byte) (body : List Byte) : Prop := kind = 0x83 ∧ body = [0x00]

/-- The reply to a RESET waits or is in flight (R163). -/
def ResetReplyPending (l : Link) : Prop :=
  (∃ r ∈ l.replies, IsResetReply r.kind r.body) ∨ ∃ f, l.transmitter = .sending f ∧ IsResetReply f.kind f.body

/-- A value held to a bound (R64, R65, R70). -/
def boundedBy (m : Nat) (v : Int) : Int := max (-(m : Int)) (min (m : Int) v)

/-- The follow-up of a direct application (R75). -/
def followedUp (followScans : Nat) (t : Tracker) : Tracker :=
  { t with
    remaining := if followScans = 255 then 0 else followScans
    state := if followScans = 0 then .holding else if followScans = 255 then .continuous else .following }

/-- What a threshold-caused hard trigger leaves of a record (R84). -/
def hardAtThreshold (cfg : ChannelConfig) (kind : TriggerKind) (scan : Word32) (values : List Int) (t : Tracker) :
    Tracker :=
  followedUp cfg.followScans
    { t with
      window := values.drop (values.length - 8)
      lastEstimate := some (estimate (values.drop (values.length - 8)))
      appliedOffset := boundedBy cfg.maxCorrection (estimate (values.drop (values.length - 8)))
      lastTrigger := some ⟨kind, scan⟩
      triggerCount := t.triggerCount + 1 }

/-- A slot after a counted conversion, by the tests of R51 and R54. -/
def afterCounted (driver : DriverState) (senseGood : Bool) (code : Int) (sl : SlotInFlight) : SlotInFlight :=
  if driver ≠ .on ∨ senseGood = false then { sl with sawOpen := true }
  else if code = -8388608 ∨ code = 8388607 then { sl with sawSaturated := true }
  else { sl with sum := sl.sum + code }

/-- The reading of a slot (R55). -/
def readingOf (sl : SlotInFlight) : Reading :=
  ⟨sl.number,
    if sl.sawOpen = true then .openInput
    else if sl.sawSaturated = true then .saturated
    else .valid (sl.sum.tdiv sl.oversample)⟩

/-- Slot `i` of a configuration as it begins (R39, R54). -/
def slotBegun (c : Configuration) (i : Fin 32) (endsAt : Nat) : SlotInFlight where
  number := i.val
  kind := c.slots[i].kind
  channel := c.slots[i].channel
  gain := c.channels[c.slots[i].channel].gain
  oversample := c.channels[c.slots[i].channel].oversample
  group := c.channels[c.slots[i].channel].exciteGroup
  phase := if c.slots[i].discards = 0 then .count else .discard
  left := if c.slots[i].discards = 0 then c.channels[c.slots[i].channel].oversample else c.slots[i].discards
  sum := 0
  sawOpen := false
  sawSaturated := false
  endsAt := endsAt

/-- The front end with a reading at the tail of the list of its channel and kind (R56). -/
def withReading (kind : SlotKind) (n : Fin 16) (r : Reading) (f : FrontEnd) : FrontEnd :=
  { f with
    measure := .ofFn fun m : Fin 16 => if kind = .measure ∧ m = n then f.measure[m] ++ [r] else f.measure[m]
    reference := .ofFn fun m : Fin 16 => if kind = .reference ∧ m = n then f.reference[m] ++ [r] else f.reference[m] }

/-- The records one completion makes of a table, in ascending id (R104, R111). -/
def recordsMade (results : Vector (Option ChannelResult) 16) (subs : List Subscription) : List ReportRecord :=
  subs.filterMap fun e =>
    match results[e.channel] with
    | none => none
    | some r => (e.evaluate r).2

/-- The body of a REPORT notice (R194). -/
def reportBytes (r : ReportRecord) : List Byte :=
  [byteOf r.subId, byteOf r.channel.val] ++ bytes4 r.scanNumber ++ bytes2 r.epoch ++
    [byteOf ((if r.flags.openInput then 1 else 0) + (if r.flags.saturated then 2 else 0) +
        (if r.flags.noValue then 4 else 0) + (if r.flags.clamped then 8 else 0)),
      byteOf ((if r.zone = none then 0 else 1) + (if r.value = none then 0 else 2) +
        (if r.rawMean = none then 0 else 4) + (if r.offsetUsed = none then 0 else 8))] ++
    (match r.zone with
      | none => []
      | some z => [z.code]) ++
    (match r.value with
      | none => []
      | some v => bytesOfInt v) ++
    (match r.rawMean with
      | none => []
      | some v => bytesOfInt v) ++
    (match r.offsetUsed with
      | none => []
      | some v => bytesOfInt v)

/-- The body of a GAP notice (R195). -/
def gapBytes (l : Loss) : List Byte := bytes2OfNat l.count ++ bytes4 l.first ++ bytes4 l.last

/-- The part goes on from an outcome; none of its outcomes is another. -/
def goesOn (f : State → Host.Outcome State Fault Refusal) (s : State) : State :=
  match f s with
  | .next t => t
  | .fault _ => s
  | .refused _ => s

/-- Characters received one after another. -/
def receiveAll (bs : List Byte) (s : State) : State :=
  bs.foldl (fun s b => goesOn (exec (.characterReceived (.byte b))) s) s

end Sys2Proof.Machine
end

