-- ==== Sys2Proof/Certificates/Slice0/Obligations.lean ====
section
/-! DEFINITION. The statements for the provers, chapter by chapter: what each command leaves, and the laws every step keeps. -/

open Sys2Proof Sys2Proof.Machine

/-! ### The step and the queue of commands -/

/-- The step runs the front command with the queue's rest; on an empty queue it idles (the model's choice, log entry 3). -/
def Obligations.StepRunsFrontCommand : Prop :=
  (∀ (c : Instr) (rest : List Instr) (s : State),
    step { s with pending := c :: rest } = exec c { s with pending := rest }) ∧
  ∀ s : State, s.pending = [] → step s = .next s

/-- Every command answers a next state, in every state: that it does so where its condition does not hold is the model's choice
(log entry 2). It neither reads nor changes the queue of commands, which is the model's own (log entry 3). -/
def Obligations.CommandsLeaveTheQueueAlone : Prop :=
  ∀ (c : Instr) (s : State), ∃ t : State, ∀ q : List Instr, exec c { s with pending := q } = .next { t with pending := q }

/-! ### Reset -/

/-- The value of every piece of state after a reset, beside the fields of log entries 4, 10 and 11 (R2, R4, R5, R7, R9, R19,
R27, R38, R53, R58, R68, R97, R116, R132, R147, R166). That nothing of RXD's level outlasts a reset is the model's inference
(log entry 15). -/
def Obligations.ResetValues : Prop :=
  (∀ f, State.reset.store.live.device.get f =
    match f with
    | .periodCount => 1000
    | .periodScale => 0
    | .armSettleMs => 20
    | .exciteALevel => 2
    | .exciteBLevel => 2
    | .triggerEdge => 0
    | .triggerMinWidth => 5
    | .doze => 0
    | .alertLine => 1
    | .planLength => 16) ∧
  (∀ (n : Fin 16) f, State.reset.store.live.channels[n].get f =
    match f with
    | .enabled => 1
    | .exciteGroup => if n.val ≤ 7 then 0 else 1
    | .gain => 1
    | .oversample => 4
    | .zeroMode => 0
    | .fixedOffset => 0
    | .maxCorrection => 65535
    | .softThreshold => 256
    | .hardThreshold => 4096
    | .thresholdResponse => 0
    | .weight => 4
    | .followScans => 3
    | .startTrigger => 1
    | .changeTrigger => 1
    | .scale => 16384) ∧
  (∀ (i : Fin 32) f, State.reset.store.live.slots[i].get f =
    match f with
    | .kind => 0
    | .channel => (i.val % 16 : Nat)
    | .discards => 1) ∧
  State.reset.store = { State.reset.store with epoch := 0, staging := [], batch := none } ∧
  State.reset.session = .closed ∧
  State.reset.engine =
    { runState := .standby, mode := .free, scanLimit := 0, scansSinceStart := 0, scanCounter := 0, timer := .stopped,
      settle := none, qualifier := .idle, snapshot := .replicate 16 0, scanEpoch := 0, counters := ⟨0, 0, 0, 0, 0⟩,
      sync := .low } ∧
  State.reset.frontEnd.slot = none ∧
  (∀ n : Fin 16, State.reset.frontEnd.measure[n] = [] ∧ State.reset.frontEnd.reference[n] = [] ∧
    State.reset.frontEnd.results[n] = none ∧
    State.reset.trackers[n] =
      { state := .off, appliedOffset := 0, window := [], remaining := 0, lastEstimate := none, lastTrigger := none,
        triggerCount := 0 }) ∧
  State.reset.drivers = ⟨.off, .off⟩ ∧
  State.reset.subs = [] ∧
  State.reset.report =
    { queue := [], tally := none, policy := .dropNewest, credits := 0, counters := ⟨0, 0, 0, 0, 0⟩ } ∧
  State.reset.alerts = ⟨[], false⟩ ∧ State.reset.alertN = .high ∧
  State.reset.link =
    { State.reset.link with
      rxState := .inactive, rxFrame := none, rxdLow := false, startBit := false, holding := [], memory := none, replies := [],
      transmitter := .idle, readyNotice := none, alertNotice := false, noticeSeq := 0, resetTaken := false,
      counters := ⟨0, 0, 0, 0, 0, 0, 0, 0, 0⟩ }

/-- POWER_ON, RESET_N_LOW, RESET_N_HIGH and START_UP_END: every block at its reset values, the cause and the rate set where
the reset ends, and the receiver in HUNT with a READY notice at the end of start-up (R162, R184). That a line low already, or
high already, does nothing is the model's (log entry 16). -/
def Obligations.ResetEvents : Prop :=
  (∀ (rate : Level) (s : State), exec (.powerOn .high rate) s =
    .next (atReset s.pending .startUp .power (if rate = .low then .bps115200 else .bps921600))) ∧
  (∀ (rate : Level) (s : State), exec (.powerOn .low rate) s =
    .next (atReset s.pending (.inReset .power) s.link.resetCause s.link.rate)) ∧
  (∀ s : State, (s.phase = .running ∨ s.phase = .startUp) → exec .resetNLow s =
    .next (atReset s.pending (.inReset .line) s.link.resetCause s.link.rate)) ∧
  (∀ (rate : Level) (cause : ResetCause) (s : State), s.phase = .inReset cause → exec (.resetNHigh rate) s =
    .next
      { s with
        phase := .startUp
        link := { s.link with resetCause := cause, rate := if rate = .low then .bps115200 else .bps921600 } }) ∧
  (∀ s : State, s.phase = .startUp → exec .startUpEnd s =
    .next
      { s with
        phase := .running
        link := { s.link with rxState := .hunt, readyNotice := some s.link.resetCause } }) ∧
  (∀ (rate : Level) (s : State), (∀ cause, s.phase ≠ .inReset cause) → exec (.resetNHigh rate) s = .next s) ∧
  (∀ (cause : ResetCause) (s : State), s.phase = .inReset cause → exec .resetNLow s = .next s) ∧
  (∀ s : State, s.phase ≠ .startUp → exec .startUpEnd s = .next s)

/-! ### Requests: session and reports of state -/

/-- R176, R127, R138. -/
def Obligations.HelloOpensSession : Prop :=
  (∀ (s : State) (f : Frame) (p c1 c0 : Byte) (policy : Policy),
    Admits .hello f s → f.body = [p, c1, c0] →
    (p = 0 ∧ policy = .dropNewest ∨ p = 1 ∧ policy = .dropOldest) → 256 * c1.toNat + c0.toNat ≤ 255 →
    exec .hello s = .next
      (answered f 0x81
        [0x00, if s.session = .opened then 1 else 0, 0x3D, 0x0B, 0x0B, 0x16, 0x01, 16, 32, 24, 48, 64,
          match s.link.resetCause with
          | .power => 0
          | .line => 1
          | .request => 2]
        { s with
          session := .opened
          store := { s.store with staging := [] }
          subs := []
          report :=
            { queue := []
              tally := none
              policy := policy
              credits := 256 * c1.toNat + c0.toNat
              counters :=
                { s.report.counters with
                  discarded := s.report.counters.discarded + BitVec.ofNat 32 (reportEntries s.report.queue) } }
          alerts := { s.alerts with noticeOutstanding := decide (s.alerts.entries ≠ []) }
          link := { s.link with alertNotice := decide (s.alerts.entries ≠ []) } })) ∧
  ∀ (s : State) (f : Frame) (p c1 c0 : Byte), Admits .hello f s → f.body = [p, c1, c0] →
    (2 ≤ p.toNat → exec .hello s = .next (refusedWith f 0x06 0 0 s)) ∧
    (p.toNat ≤ 1 → 256 ≤ 256 * c1.toNat + c0.toNat → exec .hello s = .next (refusedWith f 0x06 0 1 s))

/-- GET_STATE and READ_COUNTERS change nothing but the executor's own state, and reply the items of R174 and R180 in order. -/
def Obligations.StateAndCountersReported : Prop :=
  (∀ (s : State) (f : Frame), Admits .getState f s → exec .getState s = .next
    (answered f 0x82
      ([0x00, s.session.code, s.engine.runState.code, s.engine.mode.code] ++
        bytes2OfNat s.engine.scanLimit ++ bytes4 s.engine.scansSinceStart ++ bytes4 s.engine.scanCounter ++
        bytes2 s.store.epoch ++
        (match s.store.batch with
          | none => [0, 0]
          | some b => bytes2 b.epoch) ++
        [byteOf s.store.staging.length, byteOf s.report.credits, byteOf s.report.queue.length] ++
        (match s.report.tally with
          | none => [0, 0]
          | some l => bytes2OfNat l.count) ++
        [byteOf s.alerts.entries.length, if s.alerts.noticeOutstanding then 1 else 0, s.drivers.a.code, s.drivers.b.code])
      s)) ∧
  ∀ (s : State) (f : Frame), Admits .readCounters f s → exec .readCounters s = .next
    (answered f 0x94
      ([0x00] ++ bytes4 s.engine.counters.started ++ bytes4 s.engine.counters.completed ++
        bytes4 s.engine.counters.aborted ++ bytes4 s.engine.counters.overruns ++
        bytes4 s.engine.counters.triggersMissed ++ bytes4 s.report.counters.created ++ bytes4 s.report.counters.sent ++
        bytes4 s.report.counters.gapsSent ++ bytes4 s.report.counters.lost ++ bytes4 s.report.counters.discarded ++
        bytes4 s.link.counters.framesAccepted ++ bytes4 s.link.counters.crcErrors ++
        bytes4 s.link.counters.lengthErrors ++ bytes4 s.link.counters.charTimeouts ++
        bytes4 s.link.counters.rxOverflows ++ bytes4 s.link.counters.wakeDiscards ++ bytes4 s.link.counters.breaks ++
        bytes4 s.link.counters.duplicates ++ bytes4 s.link.counters.noticesSent)
      s)

/-- RESET sets RESET taken and queues its reply; the executor then takes no further frame, whichever command comes; and
TRANSMIT_END leaves the transmitter IDLE, the reset taking place after that reply (R156, R159, R163, R183; which reply it is:
log entry 20). -/
def Obligations.ResetRequestTaken : Prop :=
  (∀ (s : State) (f : Frame), Admits .reset f s → exec .reset s = .next
    (answered f 0x83 [0x00] { s with link := { s.link with resetTaken := true } })) ∧
  (∀ (s t : State) (c : Instr), s.link.resetTaken = true → exec c s = .next t → t.phase = .running →
    t.link.resetTaken = true ∧ t.link.memory = s.link.memory) ∧
  ∀ (rate : Level) (s : State) (f : Frame), s.phase = .running → s.link.transmitter = .sending f →
    (¬ (s.link.resetTaken = true ∧ IsResetReply f.kind f.body) → exec (.transmitEnd rate) s = .next
      { s with link := { s.link with transmitter := .idle } }) ∧
    (s.link.resetTaken = true → IsResetReply f.kind f.body → exec (.transmitEnd rate) s = .next
      (atReset s.pending .startUp .request (if rate = .low then .bps115200 else .bps921600)))

/-! ### Requests: the configuration store -/

/-- R11, R187: the resulting staging set, its count, and STAGING_FULL. -/
def Obligations.StageReplacesAndAppends : Prop :=
  ∀ (s : State) (f : Frame) (es : List Edit), Admits .stage f s → f.body = es.flatMap Edit.descriptor →
    (∀ e ∈ es, e.field.inRange e.value = true ∧ e.seq = f.seq) →
    ((stagedAfter s.store.staging es).length ≤ 64 → exec .stage s = .next
      (answered f 0x84 [0x00, byteOf (stagedAfter s.store.staging es).length]
        { s with store := { s.store with staging := stagedAfter s.store.staging es } })) ∧
    (65 ≤ (stagedAfter s.store.staging es).length → exec .stage s = .next (refusedWith f 0x07 0 0xFF s))

/-- R10, R187: the first edit that fails refuses the whole request, by its target, then its field, then its value; and the
catalogue the three checks read: the target codes, the field ids and the ranges of R1, R2, R4 and R5, with the fields that R8
lets be sealed only in STANDBY. -/
def Obligations.StageRefusals : Prop :=
  (∀ (s : State) (f : Frame) (es : List Edit) (t d v3 v2 v1 v0 : Byte) (rest : List Byte),
    Admits .stage f s → f.body = es.flatMap Edit.descriptor ++ [t, d, v3, v2, v1, v0] ++ rest →
    (∀ e ∈ es, e.field.inRange e.value = true) →
    ((∀ target : Target, target.code ≠ t.toNat) → exec .stage s = .next (refusedWith f 0x04 0 (byteOf es.length) s)) ∧
    (∀ target : Target, target.code = t.toNat →
      ((∀ field : FieldRef, field.target = target → field.id ≠ d.toNat) →
        exec .stage s = .next (refusedWith f 0x05 0 (byteOf es.length) s)) ∧
      (∀ field : FieldRef, field.target = target → field.id = d.toNat →
        field.inRange (v3 ++ v2 ++ v1 ++ v0).toInt = false →
        exec .stage s = .next (refusedWith f 0x06 0 (byteOf es.length) s)))) ∧
  (∀ target : Target, target.code =
    match target with
    | .device => 0x00
    | .channel n => 0x10 + n.val
    | .slot i => 0x40 + i.val) ∧
  (∀ field : FieldRef, (field.target, field.id) =
    match field with
    | .device .periodCount => (.device, 0x01)
    | .device .periodScale => (.device, 0x02)
    | .device .armSettleMs => (.device, 0x03)
    | .device .exciteALevel => (.device, 0x04)
    | .device .exciteBLevel => (.device, 0x05)
    | .device .triggerEdge => (.device, 0x06)
    | .device .triggerMinWidth => (.device, 0x07)
    | .device .doze => (.device, 0x08)
    | .device .alertLine => (.device, 0x09)
    | .device .planLength => (.device, 0x0A)
    | .channel n .enabled => (.channel n, 0x01)
    | .channel n .exciteGroup => (.channel n, 0x02)
    | .channel n .gain => (.channel n, 0x03)
    | .channel n .oversample => (.channel n, 0x04)
    | .channel n .zeroMode => (.channel n, 0x05)
    | .channel n .fixedOffset => (.channel n, 0x06)
    | .channel n .maxCorrection => (.channel n, 0x07)
    | .channel n .softThreshold => (.channel n, 0x08)
    | .channel n .hardThreshold => (.channel n, 0x09)
    | .channel n .thresholdResponse => (.channel n, 0x0A)
    | .channel n .weight => (.channel n, 0x0B)
    | .channel n .followScans => (.channel n, 0x0C)
    | .channel n .startTrigger => (.channel n, 0x0D)
    | .channel n .changeTrigger => (.channel n, 0x0E)
    | .channel n .scale => (.channel n, 0x0F)
    | .slot i .kind => (.slot i, 0x01)
    | .slot i .channel => (.slot i, 0x02)
    | .slot i .discards => (.slot i, 0x03)) ∧
  (∀ (field : FieldRef) (v : Int), field.inRange v = true ↔
    match field with
    | .device .periodCount => 1 ≤ v ∧ v ≤ 65535
    | .device .periodScale => 0 ≤ v ∧ v ≤ 7
    | .device .armSettleMs => 1 ≤ v ∧ v ≤ 255
    | .device .exciteALevel => 0 ≤ v ∧ v ≤ 3
    | .device .exciteBLevel => 0 ≤ v ∧ v ≤ 3
    | .device .triggerMinWidth => 1 ≤ v ∧ v ≤ 255
    | .device .planLength => 1 ≤ v ∧ v ≤ 32
    | .channel _ .gain => v = 1 ∨ v = 2 ∨ v = 4 ∨ v = 8 ∨ v = 16 ∨ v = 32 ∨ v = 64 ∨ v = 128
    | .channel _ .oversample => v = 1 ∨ v = 2 ∨ v = 4 ∨ v = 8 ∨ v = 16 ∨ v = 32 ∨ v = 64
    | .channel _ .fixedOffset => -1048575 ≤ v ∧ v ≤ 1048575
    | .channel _ .maxCorrection => 0 ≤ v ∧ v ≤ 1048575
    | .channel _ .softThreshold => 1 ≤ v ∧ v ≤ 65535
    | .channel _ .hardThreshold => 1 ≤ v ∧ v ≤ 65535
    | .channel _ .weight => 0 ≤ v ∧ v ≤ 16
    | .channel _ .followScans => 0 ≤ v ∧ v ≤ 255
    | .channel _ .scale => -32768 ≤ v ∧ v ≤ 32767
    | .slot _ .channel => 0 ≤ v ∧ v ≤ 15
    | .slot _ .discards => 0 ≤ v ∧ v ≤ 15
    | _ => v = 0 ∨ v = 1) ∧
  ∀ field : FieldRef, field.standbyOnly = true ↔
    field = .device .exciteALevel ∨ field = .device .exciteBLevel ∨ field = .device .triggerEdge ∨
      field = .device .triggerMinWidth ∨ ∃ n, field = .channel n .exciteGroup

/-- R173: the staging set is emptied; nothing else of any block changes. -/
def Obligations.DiscardEmptiesStaging : Prop :=
  ∀ (s : State) (f : Frame), Admits .discard f s → exec .discard s = .next
    (answered f 0x85 [0x00, byteOf s.store.staging.length] { s with store := { s.store with staging := [] } })

/-- R18: a SEAL that passes; in STANDBY the batch is applied within it, else it waits. Check 7 holds the duration of R6 against
the period of R3. -/
def Obligations.SealSucceeds : Prop :=
  ∀ (s : State) (f : Frame) (epoch : Word16), Admits .seal f s → s.store.staging ≠ [] → s.store.batch = none →
    PassesChecks (s.store.live.applyEdits s.store.staging) →
    epoch = (if s.store.epoch = 65535 then 1 else s.store.epoch + 1) →
    (s.engine.runState = .standby → exec .seal s = .next
      (answered f 0x86 ([0x00, 0] ++ bytes2 epoch)
        (State.applyBatch ⟨s.store.staging, epoch⟩ { s with store := { s.store with staging := [] } }))) ∧
    (s.engine.runState ≠ .standby → (∀ e ∈ s.store.staging, e.field.standbyOnly = false) → exec .seal s = .next
      (answered f 0x86 ([0x00, 1] ++ bytes2 epoch)
        { s with store := { s.store with staging := [], batch := some ⟨s.store.staging, epoch⟩ } }))

/-- R13 to R17, R186: the refusals of SEAL in their order, each with its check number and index; check 7 holds the duration of
R6 against the period of R3. -/
def Obligations.SealRefusals : Prop :=
  ∀ (s : State) (f : Frame), Admits .seal f s →
    (s.store.staging = [] → exec .seal s = .next (refusedWith f 0x08 0 0xFF s)) ∧
    (s.store.staging ≠ [] → s.store.batch ≠ none → exec .seal s = .next (refusedWith f 0x09 0 0xFF s)) ∧
    (s.store.batch = none → s.engine.runState ≠ .standby → ∀ before e after,
      s.store.staging = before ++ e :: after → (∀ x ∈ before, x.field.standbyOnly = false) →
      e.field.standbyOnly = true → exec .seal s = .next (refusedWith f 0x0A 1 (byteOf before.length) s)) ∧
    (s.store.staging ≠ [] → s.store.batch = none →
      (s.engine.runState = .standby ∨ ∀ e ∈ s.store.staging, e.field.standbyOnly = false) → ∀ check index : Nat,
      (s.store.live.applyEdits s.store.staging).FailsAt check index →
      (∀ lower i, lower < check → ¬ (s.store.live.applyEdits s.store.staging).FailsAt lower i) →
      exec .seal s = .next (refusedWith f 0x0B (byteOf check) (byteOf index) s))

/-- R24, R25, R179: the fields of a view, and the refusals in their order. -/
def Obligations.ReadConfigShowsView : Prop :=
  (∀ (s : State) (f : Frame) (v : View) (items : List ConfigItem),
    Admits .readConfig f s → f.body = v.code :: items.flatMap ConfigItem.bytes →
    ((items.flatMap ConfigItem.fields).length ≤ 24 → (v = .sealed → s.store.batch ≠ none) →
      exec .readConfig s = .next
        (answered f 0x87
          ([0x00, v.code] ++ bytes2 s.store.epoch ++
            (match s.store.batch with
              | none => [0, 0]
              | some b => bytes2 b.epoch) ++
            [byteOf s.store.staging.length, byteOf (items.flatMap ConfigItem.fields).length] ++
            (items.flatMap ConfigItem.fields).flatMap (shownField s.store v)) s)) ∧
    (25 ≤ (items.flatMap ConfigItem.fields).length → exec .readConfig s = .next (refusedWith f 0x06 0 0xFF s)) ∧
    ((items.flatMap ConfigItem.fields).length ≤ 24 → v = .sealed → s.store.batch = none →
      exec .readConfig s = .next (refusedWith f 0x0D 0 0xFF s))) ∧
  (∀ (s : State) (f : Frame) (v : Byte) (rest : List Byte), Admits .readConfig f s → f.body = v :: rest →
    3 ≤ v.toNat → exec .readConfig s = .next (refusedWith f 0x06 0 0xFF s)) ∧
  (∀ (s : State) (f : Frame) (v : View) (items : List ConfigItem) (t d : Byte) (rest : List Byte),
    Admits .readConfig f s → f.body = v.code :: (items.flatMap ConfigItem.bytes ++ [t, d] ++ rest) →
    ((∀ target : Target, target.code ≠ t.toNat) →
      exec .readConfig s = .next (refusedWith f 0x04 0 (byteOf items.length) s)) ∧
    (∀ target : Target, target.code = t.toNat → d ≠ 0 →
      (∀ field : FieldRef, field.target = target → field.id ≠ d.toNat) →
      exec .readConfig s = .next (refusedWith f 0x05 0 (byteOf items.length) s)))

/-! ### Requests: the scan engine and the tracker -/

/-- R28, R29, R87, R188; the settle's expiry on the model's clock (log entry 4). -/
def Obligations.StartBeginsRun : Prop :=
  (∀ (s : State) (f : Frame) (m l1 l0 : Byte) (mode : Mode), Admits .start f s → f.body = [m, l1, l0] →
    (m = 0 ∧ mode = .free ∨ m = 1 ∧ mode = .triggered) → s.engine.runState = .standby →
    exec .start s = .next
      (answered f 0x88 ([0x00, 1] ++ bytes4 s.engine.scanCounter)
        { s with
          drivers :=
            ⟨if s.store.live.device.exciteALevel = .off then .off else .on,
              if s.store.live.device.exciteBLevel = .off then .off else .on⟩
          trackers := .ofFn fun n : Fin 16 =>
            if s.store.live.channels[n].enabled = true ∧ s.store.live.channels[n].zeroMode = .track ∧
                s.store.live.channels[n].startTrigger = true then
              hardTriggered .start s.engine.scanCounter s.trackers[n]
            else s.trackers[n]
          engine :=
            { s.engine with
              mode := mode
              scanLimit := 256 * l1.toNat + l0.toNat
              scansSinceStart := 0
              runState := .arming
              settle := some (.arming (s.now + 1000 * s.store.live.device.armSettleMs)) } })) ∧
  ∀ (s : State) (f : Frame) (m l1 l0 : Byte), Admits .start f s → f.body = [m, l1, l0] →
    (2 ≤ m.toNat → exec .start s = .next (refusedWith f 0x06 0 0 s)) ∧
    (m.toNat ≤ 1 → s.engine.runState ≠ .standby → exec .start s = .next (refusedWith f 0x0A 0 0xFF s))

/-- R42, R43, R171, R189: STOP and ABORT by run state; and R44, R59, R154: entry into STANDBY, with a batch waiting and
without. -/
def Obligations.StopAndAbort : Prop :=
  (∀ s : State,
    (s.store.batch = none → s.enterStandby = inStandby s) ∧
    (∀ b, s.store.batch = some b →
      s.enterStandby =
        { State.applyBatch b (inStandby s) with
          engine := { (State.applyBatch b (inStandby s)).engine with runState := .standby } })) ∧
  ∀ (s : State) (f : Frame),
    (Admits .stop f s →
      (s.engine.runState = .scanning → exec .stop s = .next
        (answered f 0x89 [0x00, 6] { s with engine := { s.engine with runState := .draining } })) ∧
      (s.engine.runState = .draining → exec .stop s = .next (answered f 0x89 [0x00, 6] s)) ∧
      (s.engine.runState = .standby → exec .stop s = .next (answered f 0x89 [0x00, 0] s)) ∧
      ((s.engine.runState = .arming ∨ s.engine.runState = .waiting ∨ s.engine.runState = .doze ∨
          s.engine.runState = .settling) →
        exec .stop s = .next (answered f 0x89 [0x00, 0] s.enterStandby))) ∧
    (Admits .abort f s →
      (InScan s → exec .abort s = .next
        (answered f 0x8A ([0x00, 0, 1] ++ bytes4 s.engine.scanCounter)
          (State.enterStandby
            { s with
              frontEnd :=
                { s.frontEnd with slot := none, measure := .replicate 16 [], reference := .replicate 16 [] }
              engine :=
                { s.engine with counters := { s.engine.counters with aborted := s.engine.counters.aborted + 1 } } }))) ∧
      (s.engine.runState = .standby → exec .abort s = .next (answered f 0x8A [0x00, 0, 0, 0, 0, 0, 0] s)) ∧
      ((s.engine.runState = .arming ∨ s.engine.runState = .waiting ∨ s.engine.runState = .doze ∨
          s.engine.runState = .settling) →
        exec .abort s = .next (answered f 0x8A [0x00, 0, 0, 0, 0, 0, 0] s.enterStandby)))

/-- R86, R94, R185: MANUAL triggers on the channels named that are TRACK and enabled; the reply lists those taken. -/
def Obligations.RetrackTakesManualTriggers : Prop :=
  (∀ (s : State) (f : Frame) (ns : List (Fin 16)), Admits .retrack f s →
    f.body = 0 :: ns.map (fun n : Fin 16 => byteOf n.val) →
    exec .retrack s = .next
      (answered f 0x8B
        ([0x00, byteOf ((List.finRange 16).filter fun n => decide (n ∈ ns ∧ s.store.live.channels[n].zeroMode = .track ∧
            s.store.live.channels[n].enabled = true)).length] ++
          ((List.finRange 16).filter fun n => decide (n ∈ ns ∧ s.store.live.channels[n].zeroMode = .track ∧
            s.store.live.channels[n].enabled = true)).map fun n : Fin 16 => byteOf n.val)
        { s with
          trackers := .ofFn fun n : Fin 16 =>
            if n ∈ ns ∧ s.store.live.channels[n].zeroMode = .track ∧ s.store.live.channels[n].enabled = true then
              hardTriggered .manual s.engine.scanCounter s.trackers[n]
            else s.trackers[n] })) ∧
  (∀ (s : State) (f : Frame) (ns : List (Fin 16)), Admits .retrack f s → TrackerLaw s →
    f.body = 1 :: ns.map (fun n : Fin 16 => byteOf n.val) →
    exec .retrack s = .next
      (answered f 0x8B
        ([0x00, byteOf ((List.finRange 16).filter fun n => decide (n ∈ ns ∧ s.store.live.channels[n].zeroMode = .track ∧
            s.store.live.channels[n].enabled = true ∧ s.trackers[n].state ≠ .hardPending)).length] ++
          ((List.finRange 16).filter fun n => decide (n ∈ ns ∧ s.store.live.channels[n].zeroMode = .track ∧
            s.store.live.channels[n].enabled = true ∧ s.trackers[n].state ≠ .hardPending)).map
              fun n : Fin 16 => byteOf n.val)
        { s with
          trackers := .ofFn fun n : Fin 16 =>
            if n ∈ ns ∧ s.store.live.channels[n].zeroMode = .track ∧ s.store.live.channels[n].enabled = true ∧
                s.trackers[n].state ≠ .hardPending then
              { s.trackers[n] with
                state := if s.trackers[n].state = .continuous then .continuous else .following
                remaining :=
                  if s.trackers[n].state = .continuous then s.trackers[n].remaining
                  else if s.store.live.channels[n].followScans = 0 then 1 else s.store.live.channels[n].followScans
                lastTrigger := some ⟨.manual, s.engine.scanCounter⟩
                triggerCount := s.trackers[n].triggerCount + 1 }
            else s.trackers[n] })) ∧
  ∀ (s : State) (f : Frame) (e : Byte) (bs : List Byte), Admits .retrack f s → f.body = e :: bs →
    (2 ≤ e.toNat → exec .retrack s = .next (refusedWith f 0x06 0 0xFF s)) ∧
    (∀ before n after, e.toNat ≤ 1 → bs = before ++ n :: after → (∀ b ∈ before, b.toNat ≤ 15) → 16 ≤ n.toNat →
      exec .retrack s = .next (refusedWith f 0x06 0 (byteOf before.length) s))

/-- READ_TRACKER and READ_RESULTS change nothing but the executor's own state, and reply the records named in request order
(R181, R182). -/
def Obligations.TrackerAndResultsRead : Prop :=
  (∀ (s : State) (f : Frame) (ns : List (Fin 16)), Admits .readTracker f s →
    f.body = ns.map (fun n : Fin 16 => byteOf n.val) →
    exec .readTracker s = .next
      (answered f 0x8C
        ([0x00, byteOf ns.length] ++ ns.flatMap fun n =>
          [byteOf n.val, s.trackers[n].state.code] ++ bytesOfInt s.trackers[n].appliedOffset ++
            [byteOf s.trackers[n].remaining] ++ bytes4 s.trackers[n].triggerCount ++
            [byteOf ((if s.trackers[n].lastEstimate = none then 0 else 1) +
                (if s.trackers[n].lastTrigger = none then 0 else 2)),
              byteOf s.trackers[n].window.length] ++
            s.trackers[n].window.flatMap bytesOfInt ++
            (match s.trackers[n].lastEstimate with
              | none => []
              | some e => bytesOfInt e) ++
            (match s.trackers[n].lastTrigger with
              | none => []
              | some m => m.kind.code :: bytes4 m.scan))
        s)) ∧
  (∀ (s : State) (f : Frame) (ns : List (Fin 16)), Admits .readResults f s →
    f.body = ns.map (fun n : Fin 16 => byteOf n.val) →
    exec .readResults s = .next
      (answered f 0x8D
        ([0x00, byteOf ns.length] ++ ns.flatMap fun n =>
          match s.frontEnd.results[n] with
          | none => [byteOf n.val, 0]
          | some r =>
            [byteOf n.val, 1] ++ bytes4 r.scanNumber ++ bytes2 r.epoch ++
              [byteOf ((if r.flags.openInput then 1 else 0) + (if r.flags.saturated then 2 else 0) +
                (if r.flags.noValue then 4 else 0) + (if r.flags.clamped then 8 else 0))] ++
              bytesOfInt r.offsetUsed ++ [byteOf r.measureCount, byteOf r.referenceCount] ++
              (match r.measured with
                | none => []
                | some m => bytesOfInt m.rawMean ++ bytesOfInt m.corrected ++ bytesOfInt m.value))
        s)) ∧
  ∀ (s : State) (f : Frame) (before : List Byte) (n : Byte) (after : List Byte), f.body = before ++ n :: after →
    (∀ b ∈ before, b.toNat ≤ 15) → 16 ≤ n.toNat →
    (Admits .readTracker f s → exec .readTracker s = .next (refusedWith f 0x06 0 (byteOf before.length) s)) ∧
    (Admits .readResults f s → exec .readResults s = .next (refusedWith f 0x06 0 (byteOf before.length) s))

/-! ### Requests: subscriptions, credits and alerts -/

/-- R98, R100, R190: the new entry takes its place in the table at its id. -/
def Obligations.SubscribeCreatesEntry : Prop :=
  ∀ (s : State) (f : Frame) (id kind flags : Byte) (channel : Fin 16) (p1 p2 p3 : Int) (condition : Condition),
    Admits .subscribe f s →
    f.body = [id, byteOf channel.val, kind] ++ bytesOfInt p1 ++ bytesOfInt p2 ++ bytesOfInt p3 ++ [flags] →
    FourBytes p1 → FourBytes p2 → FourBytes p3 → NamesCondition kind p1 p2 p3 condition → ConditionLaw condition →
    1 ≤ id.toNat → id.toNat ≤ 24 → flags.toNat ≤ 3 → s.subs.length < 24 → (∀ e ∈ s.subs, e.id ≠ id.toNat) →
    SubscriptionsLaw s.subs →
    exec .subscribe s = .next
      (answered f 0x8E [0x00, byteOf (s.subs.length + 1)]
        { s with
          subs :=
            s.subs.filter (fun e => decide (e.id < id.toNat)) ++
              { id := id.toNat, channel := channel, condition := condition, withRaw := decide (flags.toNat % 2 = 1),
                withOffset := decide (2 ≤ flags.toNat), scansCounted := 0, lastReported := none, zone := .unknown } ::
              s.subs.filter (fun e => decide (id.toNat < e.id)) })

/-- R99, R190: the seven checks of SUBSCRIBE in their order. -/
def Obligations.SubscribeRefusals : Prop :=
  ∀ (s : State) (f : Frame) (id channel kind flags : Byte) (p1 p2 p3 : Int),
    Admits .subscribe f s → FourBytes p1 → FourBytes p2 → FourBytes p3 →
    f.body = [id, channel, kind] ++ bytesOfInt p1 ++ bytesOfInt p2 ++ bytesOfInt p3 ++ [flags] →
    (id.toNat = 0 ∨ 25 ≤ id.toNat → exec .subscribe s = .next (refusedWith f 0x06 1 0xFF s)) ∧
    (1 ≤ id.toNat → id.toNat ≤ 24 →
      (16 ≤ channel.toNat → exec .subscribe s = .next (refusedWith f 0x06 2 0xFF s)) ∧
      (channel.toNat ≤ 15 →
        (3 ≤ kind.toNat → exec .subscribe s = .next (refusedWith f 0x06 3 0xFF s)) ∧
        (kind.toNat ≤ 2 → (∀ c, NamesCondition kind p1 p2 p3 c → ¬ ConditionLaw c) →
          exec .subscribe s = .next (refusedWith f 0x06 4 0xFF s)) ∧
        (∀ c, NamesCondition kind p1 p2 p3 c → ConditionLaw c →
          (4 ≤ flags.toNat → exec .subscribe s = .next (refusedWith f 0x06 5 0xFF s)) ∧
          (flags.toNat ≤ 3 →
            (24 ≤ s.subs.length → exec .subscribe s = .next (refusedWith f 0x0E 6 0xFF s)) ∧
            (s.subs.length < 24 → (∃ e ∈ s.subs, e.id = id.toNat) →
              exec .subscribe s = .next (refusedWith f 0x0C 7 id s))))))

/-- UNSUBSCRIBE removes the entry of an id (R101, R191), and LIST_SUBSCRIPTIONS lists at most eight entries from an id onward
(R102, R177). -/
def Obligations.UnsubscribeAndList : Prop :=
  (∀ (s : State) (f : Frame) (id : Byte), Admits .unsubscribe f s → f.body = [id] →
    ((∃ e ∈ s.subs, e.id = id.toNat) → exec .unsubscribe s = .next
      (answered f 0x8F [0x00, byteOf (s.subs.filter fun e => decide (e.id ≠ id.toNat)).length]
        { s with subs := s.subs.filter fun e => decide (e.id ≠ id.toNat) })) ∧
    ((∀ e ∈ s.subs, e.id ≠ id.toNat) → exec .unsubscribe s = .next (refusedWith f 0x0D 0 0xFF s))) ∧
  (∀ (s : State) (f : Frame) (first : Byte) (below shown beyond : List Subscription),
    Admits .listSubscriptions f s → f.body = [first] → 1 ≤ first.toNat → first.toNat ≤ 24 →
    s.subs = below ++ shown ++ beyond → (∀ e ∈ below, e.id < first.toNat) → (∀ e ∈ shown, first.toNat ≤ e.id) →
    (∀ e ∈ beyond, first.toNat ≤ e.id) → shown.length ≤ 8 → (beyond ≠ [] → shown.length = 8) →
    exec .listSubscriptions s = .next
      (answered f 0x90
        ([0x00, byteOf s.subs.length,
            match beyond with
            | [] => 0
            | e :: _ => byteOf e.id,
            byteOf shown.length] ++
          shown.flatMap fun e =>
            [byteOf e.id, byteOf e.channel.val] ++
              (match e.condition with
                | .every n => [0] ++ bytesOfInt n ++ bytesOfInt 0 ++ bytesOfInt 0
                | .deadband d => [1] ++ bytesOfInt d ++ bytesOfInt 0 ++ bytesOfInt 0
                | .limit low high hysteresis => [2] ++ bytesOfInt low ++ bytesOfInt high ++ bytesOfInt hysteresis) ++
              [byteOf ((if e.withRaw then 1 else 0) + (if e.withOffset then 2 else 0))] ++
              bytes2OfNat e.scansCounted ++ [e.zone.code] ++
              (match e.lastReported with
                | none => [0]
                | some v => 1 :: bytesOfInt v))
        s)) ∧
  ∀ (s : State) (f : Frame) (first : Byte), Admits .listSubscriptions f s → f.body = [first] →
    first.toNat = 0 ∨ 25 ≤ first.toNat → exec .listSubscriptions s = .next (refusedWith f 0x06 0 0 s)

/-- R122, R175. -/
def Obligations.GrantRaisesCredits : Prop :=
  ∀ (s : State) (f : Frame) (n : Byte), Admits .grant f s → f.body = [n] →
    (n = 0 → exec .grant s = .next (refusedWith f 0x06 0 0 s)) ∧
    (n ≠ 0 → s.report.credits + n.toNat ≤ 255 → exec .grant s = .next
      (answered f 0x91 [0x00, byteOf (s.report.credits + n.toNat)]
        { s with report := { s.report with credits := s.report.credits + n.toNat } })) ∧
    (256 ≤ s.report.credits + n.toNat → n ≠ 0 → exec .grant s = .next
      (answered f 0x91 [0x00, 255] { s with report := { s.report with credits := 255 } }))

/-- ACK_ALERTS removes the entries named, clears or renews the notice and lists what it removed (R137, R172); READ_ALERTS lists
at most sixteen entries from a key index onward (R140, R178). -/
def Obligations.AlertRequests : Prop :=
  (∀ (s : State) (f : Frame) (named : AlertEntry → Bool), Admits .ackAlerts f s →
    (f.body = [1] ∧ (∀ e, named e = true) ∨
      ∃ keys, f.body = 0 :: keys ∧ (∀ k ∈ keys, k.toNat ≤ 37) ∧
        ∀ e, named e = true ↔ ∃ k ∈ keys, k.toNat = e.key.index) →
    exec .ackAlerts s = .next
      (answered f 0x92
        ([0x00, byteOf (s.alerts.entries.filter named).length] ++
          ((s.alerts.entries.filter named).flatMap fun e => byteOf e.key.index :: bytes2OfNat e.occurrences) ++
          [byteOf (s.alerts.entries.filter fun e => !named e).length])
        { s with
          alerts :=
            { entries := s.alerts.entries.filter fun e => !named e
              noticeOutstanding := decide ((s.alerts.entries.filter fun e => !named e) ≠ []) }
          link := { s.link with alertNotice := decide ((s.alerts.entries.filter fun e => !named e) ≠ []) } })) ∧
  (∀ (s : State) (f : Frame) (before : List Byte) (k : Byte) (after : List Byte), Admits .ackAlerts f s →
    f.body = 0 :: (before ++ k :: after) → (∀ b ∈ before, b.toNat ≤ 37) → 38 ≤ k.toNat →
    exec .ackAlerts s = .next (refusedWith f 0x06 0 (byteOf before.length) s)) ∧
  (∀ (s : State) (f : Frame) (first : Byte) (below shown beyond : List AlertEntry),
    Admits .readAlerts f s → f.body = [first] → first.toNat ≤ 37 → s.alerts.entries = below ++ shown ++ beyond →
    (∀ e ∈ below, e.key.index < first.toNat) → (∀ e ∈ shown, first.toNat ≤ e.key.index) →
    (∀ e ∈ beyond, first.toNat ≤ e.key.index) → shown.length ≤ 16 → (beyond ≠ [] → shown.length = 16) →
    exec .readAlerts s = .next
      (answered f 0x93
        ([0x00, byteOf s.alerts.entries.length, if s.alerts.noticeOutstanding then 1 else 0,
            match beyond with
            | [] => 0xFF
            | e :: _ => byteOf e.key.index,
            byteOf shown.length] ++
          shown.flatMap fun e =>
            byteOf e.key.index :: (bytes4 e.firstScan ++ bytes4 e.lastScan ++ bytes2OfNat e.occurrences))
        s)) ∧
  ∀ (s : State) (f : Frame) (first : Byte), Admits .readAlerts f s → f.body = [first] → 38 ≤ first.toNat →
    exec .readAlerts s = .next (refusedWith f 0x06 0 0 s)

/-! ### The executor -/

/-- R168: UNKNOWN_KIND, then NO_SESSION, then BAD_LENGTH; each changes nothing but the executor's own state. -/
def Obligations.CommonChecks : Prop :=
  ∀ (s : State) (f : Frame), Executes f s →
    ((∀ k : RequestKind, f.kind ≠ k.code) → exec .unknownKind s = .next (answered f 0xFF [0x02, 0, 0xFF] s)) ∧
    ∀ k : RequestKind, f.kind = k.code →
      (¬ SessionAllows k s → exec k.command s = .next (refusedWith f 0x01 0 0xFF s)) ∧
      (SessionAllows k s → ¬ WellFormedBody k f.body → exec k.command s = .next (refusedWith f 0x03 0 0xFF s))

/-- R157: a duplicate is answered with a copy of the cached reply and not executed. -/
def Obligations.DuplicateAnswered : Prop :=
  ∀ (s : State) (f : Frame) (m : Remembered), Takes f s → s.link.memory = some m → m.sameAs f →
    exec .duplicate s = .next
      { s with
        link :=
          { s.link with
            holding := s.link.holding.tail
            replies := s.link.replies ++ [m.reply]
            counters := { s.link.counters with duplicates := s.link.counters.duplicates + 1 } } }

/-- R168: a request refused by any check changes no state of any block but the executor's queues and memory. -/
def Obligations.RefusalsChangeNothing : Prop :=
  ∀ (k : RequestKind) (s : State) (f : Frame), Executes f s → f.kind = k.code →
    ∃ (t : State) (status : Byte) (body : List Byte), exec k.command s = .next t ∧
      t.link.replies = s.link.replies ++ [⟨f.seq, f.kind + 0x80, status :: body⟩] ∧
      t.link.memory = some ⟨f.seq, f.kind, f.crc, ⟨f.seq, f.kind + 0x80, status :: body⟩⟩ ∧
      (status ≠ 0 → t = answered f (f.kind + 0x80) (status :: body) s)

/-- R169: "The longest reply body is 218 bytes". -/
def Obligations.RepliesFitTheFrame : Prop :=
  ∀ (k : RequestKind) (s t : State) (f : Frame), Executes f s → f.kind = k.code → AlertLaw s → TrackerLaw s →
    exec k.command s = .next t → ∃ r, t.link.replies = s.link.replies ++ [r] ∧ r.body.length ≤ 218

/-! ### The receiver -/

/-- FRAME_ARRIVAL, LENGTH_ERROR and CHARACTER_TIMEOUT (R149, R150, R151); a start bit holds the timeout off (R151, R165; what
says that one has come: log entry 8). -/
def Obligations.ArrivalAndReceiverErrors : Prop :=
  (∀ (s : State) (rf : RxFrame) (seq kind high low : Byte), s.phase = .running → s.link.rxdLow = false →
    s.link.rxState = .check → s.link.rxFrame = some rf → rf.crcHigh = some high → rf.seq = some seq →
    rf.kind = some kind →
    ((high ++ low : Word16) ≠ rf.crc → exec (.frameArrival low) s = .next
      (latched [.linkError]
        { inHunt s with
          link :=
            { (inHunt s).link with
              startBit := false
              counters := { s.link.counters with crcErrors := s.link.counters.crcErrors + 1 } } })) ∧
    ((high ++ low : Word16) = rf.crc → s.link.holding.length < 2 → exec (.frameArrival low) s = .next
      { inHunt s with
        link :=
          { (inHunt s).link with
            startBit := false
            holding := s.link.holding ++ [⟨seq, kind, rf.body, rf.crc⟩]
            counters := { s.link.counters with framesAccepted := s.link.counters.framesAccepted + 1 } } }) ∧
    ((high ++ low : Word16) = rf.crc → 2 ≤ s.link.holding.length → exec (.frameArrival low) s = .next
      (latched [.linkError]
        { inHunt s with
          link :=
            { (inHunt s).link with
              startBit := false
              counters := { s.link.counters with rxOverflows := s.link.counters.rxOverflows + 1 } } }))) ∧
  (∀ (s : State) (rf : RxFrame) (len : Byte), s.phase = .running → s.link.rxdLow = false → s.link.rxState = .header →
    s.link.rxFrame = some rf → rf.len = none → 241 ≤ len.toNat → exec (.lengthError len) s = .next
      (latched [.linkError]
        { inHunt s with
          link :=
            { (inHunt s).link with
              startBit := false
              counters := { s.link.counters with lengthErrors := s.link.counters.lengthErrors + 1 } } })) ∧
  (∀ s : State, s.phase = .running → s.link.startBit = false →
    (s.link.rxState = .sync ∨ s.link.rxState = .header ∨ s.link.rxState = .body ∨ s.link.rxState = .check) →
    exec .characterTimeout s = .next
      (latched [.linkError]
        { inHunt s with
          link :=
            { (inHunt s).link with
              counters := { s.link.counters with charTimeouts := s.link.counters.charTimeouts + 1 } } })) ∧
  ∀ s : State, s.link.startBit = true → exec .characterTimeout s = .next s

/-- CHARACTER_RECEIVED, byte by byte (R148, R149), and a framing error (R143, R151; its mark `late`: log entry 7). That the byte
LENGTH_ERROR or FRAME_ARRIVAL carries may also come as a character is the model's choice (log entry 6). The running CRC is that
of R146, which `WireRoundTrip` spells. -/
def Obligations.CharacterReceived : Prop :=
  ∀ s : State, s.phase = .running → s.link.rxdLow = false →
    (∀ b : Byte, s.link.rxState = .hunt →
      (b = 0xA5 → exec (.characterReceived (.byte b)) s = .next
        { s with link := { s.link with rxState := .sync, rxFrame := none, startBit := false } }) ∧
      (b ≠ 0xA5 → exec (.characterReceived (.byte b)) s = .next (characterOver s))) ∧
    (∀ b : Byte, s.link.rxState = .sync →
      (b = 0x5A → exec (.characterReceived (.byte b)) s = .next
        { s with
          link :=
            { s.link with rxState := .header, rxFrame := some ⟨none, none, none, [], 0xFFFF, none⟩, startBit := false } }) ∧
      (b = 0xA5 → exec (.characterReceived (.byte b)) s = .next (characterOver s)) ∧
      (b ≠ 0x5A → b ≠ 0xA5 → exec (.characterReceived (.byte b)) s = .next (inHunt (characterOver s)))) ∧
    (∀ (b : Byte) (rf : RxFrame), s.link.rxState = .header → s.link.rxFrame = some rf →
      (rf.len = none → b.toNat ≤ 240 → exec (.characterReceived (.byte b)) s = .next
        { s with link := { s.link with startBit := false, rxFrame := some { rf with len := some b, crc := crcByte rf.crc b } } }) ∧
      (rf.len = none → 241 ≤ b.toNat → exec (.characterReceived (.byte b)) s = exec (.lengthError b) s) ∧
      (∀ len, rf.len = some len →
        (rf.seq = none → exec (.characterReceived (.byte b)) s = .next
          { s with link := { s.link with startBit := false, rxFrame := some { rf with seq := some b, crc := crcByte rf.crc b } } }) ∧
        (rf.seq ≠ none → exec (.characterReceived (.byte b)) s = .next
          { s with
            link :=
              { s.link with
                startBit := false
                rxState := if len = 0 then .check else .body
                rxFrame := some { rf with kind := some b, crc := crcByte rf.crc b } } }))) ∧
    (∀ (b len : Byte) (rf : RxFrame), s.link.rxState = .body → s.link.rxFrame = some rf → rf.len = some len →
      exec (.characterReceived (.byte b)) s = .next
        { s with
          link :=
            { s.link with
              startBit := false
              rxState := if rf.body.length + 1 < len.toNat then .body else .check
              rxFrame := some { rf with body := rf.body ++ [b], crc := crcByte rf.crc b } } }) ∧
    (∀ (b : Byte) (rf : RxFrame), s.link.rxState = .check → s.link.rxFrame = some rf →
      (rf.crcHigh = none → exec (.characterReceived (.byte b)) s = .next
        { s with link := { s.link with startBit := false, rxFrame := some { rf with crcHigh := some b } } }) ∧
      (rf.crcHigh ≠ none → exec (.characterReceived (.byte b)) s = exec (.frameArrival b) s)) ∧
    (∀ b : Byte, (s.link.rxState = .wakeListen ∨ s.link.rxState = .wakeQuiet) →
      exec (.characterReceived (.byte b)) s = .next (characterOver s)) ∧
    exec (.characterReceived (.framingError false)) s = .next (characterOver s) ∧
    exec (.characterReceived (.framingError true)) s = exec .characterTimeout (characterOver s)

/-- A frame's bytes, received one after another by a receiver in HUNT, come out as the frame: held where there is room, dropped
as an overflow where there is none, discarded where the CRC bytes are not its CRC (R145 to R150, R193; that the last byte comes
as a character is the model's choice, log entry 6). The CRC is that of R146: from 0xFFFF, over LEN, SEQ, KIND and the body, each
byte into the high eight bits and then eight shifts, with 0x1021 where a 1 was shifted out. -/
def Obligations.WireRoundTrip : Prop :=
  (∀ (reg : Word16) (b : Byte), crcByte reg b = shiftedOut (shiftedOut (shiftedOut (shiftedOut (shiftedOut (shiftedOut
    (shiftedOut (shiftedOut (reg ^^^ (b.setWidth 16 <<< 8)))))))))) ∧
  (∀ (seq kind : Byte) (body : List Byte), makeFrame seq kind body =
    { seq := seq, kind := kind, body := body,
      crc := ([BitVec.ofNat 8 body.length, seq, kind] ++ body).foldl crcByte 0xFFFF }) ∧
  (∀ (seq kind : Byte) (body : List Byte) (crc : Word16), Frame.wire ⟨seq, kind, body, crc⟩ =
    [0xA5, 0x5A, BitVec.ofNat 8 body.length, seq, kind] ++ body ++ [(crc >>> 8).setWidth 8, crc.setWidth 8]) ∧
  ∀ (s : State) (seq kind : Byte) (body : List Byte) (crc : Word16), s.phase = .running → s.link.rxdLow = false →
    s.link.rxState = .hunt → body.length ≤ 240 →
    (s.link.holding.length < 2 →
      receiveAll (makeFrame seq kind body).wire s =
        { inHunt s with
          link :=
            { (inHunt s).link with
              startBit := false
              holding := s.link.holding ++ [makeFrame seq kind body]
              counters := { s.link.counters with framesAccepted := s.link.counters.framesAccepted + 1 } } }) ∧
    (2 ≤ s.link.holding.length →
      receiveAll (makeFrame seq kind body).wire s =
        latched [.linkError]
          { inHunt s with
            link :=
              { (inHunt s).link with
                startBit := false
                counters := { s.link.counters with rxOverflows := s.link.counters.rxOverflows + 1 } } }) ∧
    (crc ≠ (makeFrame seq kind body).crc →
      receiveAll (Frame.wire ⟨seq, kind, body, crc⟩) s =
        latched [.linkError]
          { inHunt s with
            link :=
              { (inHunt s).link with
                startBit := false
                counters := { s.link.counters with crcErrors := s.link.counters.crcErrors + 1 } } })

/-- BREAK and BREAK_END (R152, R161, R163). A break in WAKE_LISTEN makes the wake first (log entry 9); which reply is that of the
RESET is log entry 20; that the reset a break brings leaves RXD's low level forgotten is log entry 15. -/
def Obligations.BreakAndItsEnd : Prop :=
  (∀ (rate : Level) (s : State), s.phase = .running → s.link.rxdLow = false → s.link.rxState ≠ .wakeListen →
    (¬ (s.link.resetTaken = true ∧ ResetReplyPending s.link) → exec (.breakDetected rate) s = .next
      { s with
        link :=
          { s.link with
            rxState := if s.link.rxState = .wakeQuiet then .wakeQuiet else .hunt
            rxFrame := none
            rxdLow := true
            startBit := false
            holding := []
            replies := []
            transmitter := .idle
            counters := { s.link.counters with breaks := s.link.counters.breaks + 1 } } }) ∧
    (s.link.resetTaken = true → ResetReplyPending s.link → exec (.breakDetected rate) s = .next
      (atReset s.pending .startUp .request (if rate = .low then .bps115200 else .bps921600)))) ∧
  (∀ (rate : Level) (s t : State), s.phase = .running → s.link.rxdLow = false → s.link.rxState = .wakeListen →
    exec .wake s = .next t → exec (.breakDetected rate) s = exec (.breakDetected rate) t) ∧
  (∀ (rate : Level) (c : Character) (s : State), s.link.rxdLow = true → exec (.breakDetected rate) s = .next s ∧
    exec (.characterReceived c) s = .next s ∧ exec .arbiterChoice s = .next s) ∧
  ∀ s : State, s.phase = .running → exec .breakEnd s = .next { s with link := { s.link with rxdLow := false } }

/-- DOZE_ENTRY, WAKE and WAKE_QUIET_END (R45, R46, R153). A start bit that comes before the entry holds it off (R165); that WAKE
is this start bit too, and that RXD held low after a break is no condition of R45, is log entry 8. -/
def Obligations.DozeAndWake : Prop :=
  (∀ s : State, s.phase = .running → s.engine.runState = .waiting → s.store.live.device.doze = true →
    s.link.holding = [] → s.link.rxState = .hunt → s.link.startBit = false → s.link.replies = [] → s.link.transmitter = .idle →
    s.link.readyNotice = none → s.link.alertNotice = false →
    (s.report.queue = [] ∧ s.report.tally = none ∨ s.report.credits = 0) →
    exec .dozeEntry s = .next
      { s with
        drivers := ⟨restedDriver s.drivers.a, restedDriver s.drivers.b⟩
        engine := { s.engine with runState := .doze }
        link := { s.link with rxState := .wakeListen } }) ∧
  (∀ s t : State, exec .dozeEntry s = .next t → t.engine.runState = .doze → s.engine.runState ≠ .doze →
    s.engine.runState = .waiting ∧ s.store.live.device.doze = true ∧ s.link.holding = [] ∧ s.link.rxState = .hunt ∧
      s.link.startBit = false ∧ s.link.replies = [] ∧ s.link.transmitter = .idle ∧ s.link.readyNotice = none ∧ s.link.alertNotice = false ∧
      (s.report.queue = [] ∧ s.report.tally = none ∨ s.report.credits = 0)) ∧
  (∀ s : State, s.phase = .running → s.link.rxState = .wakeListen → s.link.rxdLow = false → exec .wake s = .next
    { s with
      drivers :=
        ⟨wokenDriver s.store.live.device.exciteALevel s.drivers.a,
          wokenDriver s.store.live.device.exciteBLevel s.drivers.b⟩
      engine := { s.engine with runState := .waiting }
      link :=
        { s.link with
          rxState := .wakeQuiet
          counters := { s.link.counters with wakeDiscards := s.link.counters.wakeDiscards + 1 } } }) ∧
  (∀ s : State, s.phase = .running → s.link.rxdLow = false →
    (s.link.rxState = .hunt ∨ s.link.rxState = .sync ∨ s.link.rxState = .header ∨ s.link.rxState = .body ∨
      s.link.rxState = .check) → exec .wake s = .next { s with link := { s.link with startBit := true } }) ∧
  (∀ s : State, (s.link.rxdLow = true ∨ s.link.rxState = .wakeQuiet) → exec .wake s = .next s) ∧
  ∀ s : State, s.phase = .running → s.link.rxState = .wakeQuiet → s.link.rxdLow = false →
    exec .wakeQuietEnd s = .next (inHunt s)

/-! ### The transmitter -/

/-- ARBITER_CHOICE: the first eligible candidate of R159 begins, as R124, R135, R160 and R197 give it. -/
def Obligations.ArbiterChooses : Prop :=
  ∀ s : State, s.phase = .running → s.link.transmitter = .idle → s.link.rxdLow = false →
    (∀ r rest, s.link.replies = r :: rest → exec .arbiterChoice s = .next
      { s with
        link := { s.link with transmitter := .sending (makeFrame r.seq r.kind r.body), replies := rest } }) ∧
    (s.link.replies = [] →
      (∀ cause, s.link.readyNotice = some cause → exec .arbiterChoice s = .next
        (noticeBegun 0xC0 [cause.code, 0x0B, 0x16, 0x01] { s with link := { s.link with readyNotice := none } })) ∧
      (s.link.readyNotice = none →
        (s.link.alertNotice = true → exec .arbiterChoice s = .next
          (noticeBegun 0xC3
            (bytes4 s.engine.scanCounter ++ [byteOf s.alerts.entries.length] ++
              s.alerts.entries.flatMap fun e => byteOf e.key.index :: bytes2OfNat e.occurrences)
            { s with link := { s.link with alertNotice := false } })) ∧
        (s.link.alertNotice = false →
          (s.report.credits = 0 → exec .arbiterChoice s = .next s) ∧
          (s.report.queue = [] → (s.report.policy = .dropNewest ∨ s.report.tally = none) →
            exec .arbiterChoice s = .next s) ∧
          (∀ l, 1 ≤ s.report.credits → s.report.policy = .dropOldest → s.report.tally = some l →
            exec .arbiterChoice s = .next
              (noticeBegun 0xC2 (gapBytes l)
                { s with
                  report :=
                    { s.report with
                      credits := s.report.credits - 1
                      tally := none
                      counters := { s.report.counters with gapsSent := s.report.counters.gapsSent + 1 } } })) ∧
          (∀ r rest, 1 ≤ s.report.credits → s.report.queue = .report r :: rest → s.report.tally = none →
            exec .arbiterChoice s = .next
              (noticeBegun 0xC1 (reportBytes r)
                { s with
                  report :=
                    { s.report with
                      credits := s.report.credits - 1
                      queue := rest
                      counters := { s.report.counters with sent := s.report.counters.sent + 1 } } })) ∧
          (∀ r rest l, 1 ≤ s.report.credits → s.report.queue = .report r :: rest → s.report.policy = .dropNewest →
            s.report.tally = some l → exec .arbiterChoice s = .next
              (noticeBegun 0xC1 (reportBytes r)
                { s with
                  report :=
                    { s.report with
                      credits := s.report.credits - 1
                      queue := rest ++ [.gap l]
                      tally := none
                      counters := { s.report.counters with sent := s.report.counters.sent + 1 } } })) ∧
          (∀ g rest, 1 ≤ s.report.credits → s.report.queue = .gap g :: rest → s.report.tally = none →
            exec .arbiterChoice s = .next
              (noticeBegun 0xC2 (gapBytes g)
                { s with
                  report :=
                    { s.report with
                      credits := s.report.credits - 1
                      queue := rest
                      counters := { s.report.counters with gapsSent := s.report.counters.gapsSent + 1 } } })) ∧
          (∀ g rest l, 1 ≤ s.report.credits → s.report.queue = .gap g :: rest → s.report.policy = .dropNewest →
            s.report.tally = some l → exec .arbiterChoice s = .next
              (noticeBegun 0xC2 (gapBytes g)
                { s with
                  report :=
                    { s.report with
                      credits := s.report.credits - 1
                      queue := rest ++ [.gap l]
                      tally := none
                      counters := { s.report.counters with gapsSent := s.report.counters.gapsSent + 1 } } })))))

/-! ### The scan engine -/

/-- ARMING_SETTLE_END and WAKE_SETTLE_END (R30, R47), over the scan start that `ScanStartEffects` states; the times are those of
the model's clock (log entry 4). -/
def Obligations.SettlesEnd : Prop :=
  ∀ (s : State) (expiry : Nat), s.phase = .running →
    (s.engine.runState = .arming → s.engine.settle = some (.arming expiry) →
      (s.engine.mode = .free →
        exec .armingSettleEnd s = .next (State.scanStart { s with now := max s.now expiry })) ∧
      (s.engine.mode = .triggered → exec .armingSettleEnd s = .next
        { s with now := max s.now expiry, engine := { s.engine with runState := .waiting, settle := none } })) ∧
    (s.engine.runState = .settling → s.engine.settle = some (.wake expiry) →
      exec .wakeSettleEnd s = .next (State.scanStart { s with now := max s.now expiry }))

/-- TIMER_EXPIRY: the timer reloads on the model's clock (log entry 4), and the run state decides the rest (R31, R33). -/
def Obligations.TimerExpires : Prop :=
  ∀ (s reloaded : State) (period due : Nat), s.phase = .running → s.engine.timer = .running period due →
    reloaded = { s with now := max s.now due, engine := { s.engine with timer := .running period (due + period) } } →
    (s.engine.runState = .waiting → exec .timerExpiry s = .next reloaded.scanStart) ∧
    (s.engine.runState = .doze → exec .timerExpiry s = .next (inSettling reloaded)) ∧
    ((s.engine.runState = .settling ∨ s.engine.runState = .scanning) → exec .timerExpiry s = .next
      (latched [.scanOverrun]
        { reloaded with
          engine :=
            { reloaded.engine with
              counters := { s.engine.counters with overruns := s.engine.counters.overruns + 1 } } })) ∧
    (s.engine.runState = .draining → exec .timerExpiry s = .next reloaded)

/-- TRIG_EDGE and TRIGGER: the qualifier, and what a trigger does by mode and run state (R34, R35). -/
def Obligations.TriggersQualifiedAndTaken : Prop :=
  (∀ (s : State) (direction : Edge), s.phase = .running →
    (s.engine.qualifier = .idle → direction = s.store.live.device.triggerEdge → exec (.trigEdge direction) s = .next
      { s with engine := { s.engine with qualifier := .timing direction s.store.live.device.triggerMinWidth } }) ∧
    (s.engine.qualifier = .idle → direction ≠ s.store.live.device.triggerEdge →
      exec (.trigEdge direction) s = .next s) ∧
    (∀ edge width, s.engine.qualifier = .timing edge width → direction ≠ edge → exec (.trigEdge direction) s = .next
      { s with engine := { s.engine with qualifier := .idle } })) ∧
  ∀ (s idle : State) (edge : Edge) (width : Nat), s.phase = .running → s.engine.qualifier = .timing edge width →
    idle = { s with engine := { s.engine with qualifier := .idle } } →
    (s.engine.mode = .free → exec .trigger s = .next idle) ∧
    (s.engine.mode = .triggered →
      (s.engine.runState = .waiting → exec .trigger s = .next idle.scanStart) ∧
      (s.engine.runState = .doze → exec .trigger s = .next (inSettling idle)) ∧
      ((s.engine.runState = .arming ∨ s.engine.runState = .settling ∨ InScan s) → exec .trigger s = .next
        (latched [.triggerMissed]
          { idle with
            engine :=
              { idle.engine with
                counters := { s.engine.counters with triggersMissed := s.engine.counters.triggersMissed + 1 } } })) ∧
      (s.engine.runState = .standby → exec .trigger s = .next idle))

/-- A scan start, after its boundary has applied a waiting batch (R31, R32, R36, R37, R38, R54); and SYNC_PULSE_END (R38). -/
def Obligations.ScanStartEffects : Prop :=
  (∀ s counted applied : State,
    counted =
      { s with
        engine :=
          { s.engine with
            scanCounter := s.engine.scanCounter + 1
            counters := { s.engine.counters with started := s.engine.counters.started + 1 } } } →
    (s.store.batch = none ∧ applied = counted ∨ ∃ b, s.store.batch = some b ∧ applied = counted.applyBatch b) →
    ∀ period, period =
      applied.store.live.device.periodCount * 2 ^ applied.store.live.device.periodScale * 100 →
    s.scanStart =
      { applied with
        engine :=
          { applied.engine with
            timer :=
              match s.engine.mode, s.engine.timer with
              | .triggered, timer => timer
              | .free, .stopped => .running period (s.now + period)
              | .free, .running p due =>
                if s.store.live.device.periodCount = applied.store.live.device.periodCount ∧
                    s.store.live.device.periodScale = applied.store.live.device.periodScale then .running p due
                else .running period (s.now + period)
            settle := none
            snapshot := .ofFn fun n : Fin 16 => applied.trackers[n].appliedOffset
            scanEpoch := applied.store.epoch
            sync := .high
            runState := .scanning }
        frontEnd := { s.frontEnd with slot := some (slotBegun applied.store.live 0 (s.now + 200)) } }) ∧
  ∀ s : State, s.phase = .running →
    exec .syncPulseEnd s = .next { s with engine := { s.engine with sync := .low } }

/-- CONVERSION_END, conversion by conversion and slot by slot (R39, R51, R54 to R56), over the completion that
`CompletionEffects` states. The clock and the time a conversion ends are the model's (log entry 4), and so is the test of the
driver at the conversion's end (log entry 13). -/
def Obligations.ConversionsWalkThePlan : Prop :=
  ∀ (s clocked : State) (code : BitVec 24) (senseGood : Bool) (choice : Option Nat) (sl next counted : SlotInFlight),
    s.phase = .running → InScan s → s.frontEnd.slot = some sl → clocked = { s with now := max s.now sl.endsAt } →
    next = { sl with endsAt := sl.endsAt + 200 } →
    counted = afterCounted (match sl.group with | .a => s.drivers.a | .b => s.drivers.b) senseGood code.toInt next →
    (sl.phase = .discard → 2 ≤ sl.left → exec (.conversionEnd code senseGood choice) s = .next
      { clocked with frontEnd := { s.frontEnd with slot := some { next with left := sl.left - 1 } } }) ∧
    (sl.phase = .discard → sl.left = 1 → exec (.conversionEnd code senseGood choice) s = .next
      { clocked with frontEnd := { s.frontEnd with slot := some { next with phase := .count, left := sl.oversample } } }) ∧
    (sl.phase = .count → 2 ≤ sl.left → exec (.conversionEnd code senseGood choice) s = .next
      { clocked with frontEnd := { s.frontEnd with slot := some { counted with left := sl.left - 1 } } }) ∧
    (sl.phase = .count → sl.left = 1 →
      (∀ i : Fin 32, i.val = sl.number + 1 → i.val < s.store.live.device.planLength →
        exec (.conversionEnd code senseGood choice) s = .next
          { clocked with
            frontEnd :=
              { withReading sl.kind sl.channel (readingOf counted) s.frontEnd with
                slot := some (slotBegun s.store.live i (sl.endsAt + 200)) } }) ∧
      (s.store.live.device.planLength ≤ sl.number + 1 ∨ 32 ≤ sl.number + 1 →
        exec (.conversionEnd code senseGood choice) s = .next
          (State.completeScan choice
            { clocked with
              frontEnd := { withReading sl.kind sl.channel (readingOf counted) s.frontEnd with slot := none } })))

/-- A completion: results, latches, trackers, subscriptions, arrivals and the run state after it (R40, R41, R53, R63, R66, R76,
R104, R111, R118). First what it leaves where no batch waits, with the report side and the latches of a completion with no
transmission begun between its arrivals; then the whole state it leaves, with a batch waiting or none (R23, R44) and with or
without a choice of the arbiter among its arrivals (R118, R129, log entry 14). -/
def Obligations.CompletionEffects : Prop :=
  (∀ (s t : State) (choice : Option Nat), InScan s → s.store.batch = none → t = State.completeScan choice s →
    (∀ n : Fin 16,
      t.frontEnd.results[n] =
        (if s.store.live.channels[n].enabled = true then
          some (channelResult s.store.live.channels[n] s.engine.scanCounter s.engine.scanEpoch s.engine.snapshot[n]
            s.frontEnd.measure[n] s.frontEnd.reference[n])
        else none) ∧
      t.trackers[n] =
        (if s.store.live.channels[n].enabled = true then
          (s.trackers[n].complete s.store.live.channels[n] s.engine.scanCounter
            (validValues s.frontEnd.reference[n])).record
        else s.trackers[n]) ∧
      t.frontEnd.measure[n] = [] ∧ t.frontEnd.reference[n] = []) ∧
    t.frontEnd.slot = none ∧
    t.subs = (s.subs.map fun e =>
      match t.frontEnd.results[e.channel] with
      | none => e
      | some r => (e.evaluate r).1) ∧
    t.engine.scanCounter = s.engine.scanCounter ∧ t.engine.snapshot = s.engine.snapshot ∧
    t.engine.scanEpoch = s.engine.scanEpoch ∧
    t.engine.counters = { s.engine.counters with completed := s.engine.counters.completed + 1 } ∧
    t.engine.scansSinceStart = s.engine.scansSinceStart + 1 ∧
    t.store = s.store ∧ t.session = s.session ∧ t.now = s.now ∧
    (s.engine.runState = .scanning →
      (s.engine.scanLimit = 0 ∨ (s.engine.scansSinceStart + 1).toNat ≠ s.engine.scanLimit) →
      t.engine.runState = .waiting ∧ t.drivers = s.drivers ∧ t.engine.timer = s.engine.timer) ∧
    ((s.engine.runState = .draining ∨
        1 ≤ s.engine.scanLimit ∧ (s.engine.scansSinceStart + 1).toNat = s.engine.scanLimit) →
      t.engine.runState = .standby ∧ t.drivers = ⟨restedDriver s.drivers.a, restedDriver s.drivers.b⟩ ∧
        t.engine.timer = .stopped) ∧
    (choice = none →
      t.report = (recordsMade t.frontEnd.results s.subs).foldl (fun q r => q.arrive r) s.report ∧
      (QueueLaw s.report →
        t.alerts =
          (latched
            (((List.finRange 16).filter fun n =>
                match t.frontEnd.results[n] with
                | none => false
                | some r => r.flags.openInput || r.flags.saturated).map .inputFault ++
              (if s.drivers.a = .tripped then [.excitationTrip .a] else []) ++
              (if s.drivers.b = .tripped then [.excitationTrip .b] else []) ++
              ((List.finRange 16).filter fun n =>
                s.store.live.channels[n].enabled &&
                  (s.trackers[n].complete s.store.live.channels[n] s.engine.scanCounter
                    (validValues s.frontEnd.reference[n])).clamped).map .offsetAtLimit ++
              List.replicate
                ((recordsMade t.frontEnd.results s.subs).length - (48 - s.report.queue.length)) .reportLoss)
            s).alerts))) ∧
  ∀ (s begun arrived cleared : State) (choice : Option Nat) (results : Vector (Option ChannelResult) 16)
    (records : List ReportRecord), InScan s →
    (∀ n : Fin 16, results[n] =
      if s.store.live.channels[n].enabled = true then
        some (channelResult s.store.live.channels[n] s.engine.scanCounter s.engine.scanEpoch s.engine.snapshot[n]
          s.frontEnd.measure[n] s.frontEnd.reference[n])
      else none) →
    records = recordsMade results s.subs →
    begun =
      latched
        (((List.finRange 16).filter fun n =>
            match results[n] with
            | none => false
            | some r => r.flags.openInput || r.flags.saturated).map .inputFault ++
          (if s.drivers.a = .tripped then [.excitationTrip .a] else []) ++
          (if s.drivers.b = .tripped then [.excitationTrip .b] else []) ++
          ((List.finRange 16).filter fun n =>
            s.store.live.channels[n].enabled &&
              (s.trackers[n].complete s.store.live.channels[n] s.engine.scanCounter
                (validValues s.frontEnd.reference[n])).clamped).map .offsetAtLimit)
        { s with
          engine :=
            { s.engine with
              scansSinceStart := s.engine.scansSinceStart + 1
              counters := { s.engine.counters with completed := s.engine.counters.completed + 1 } }
          frontEnd := { s.frontEnd with results := results }
          trackers := .ofFn fun n : Fin 16 =>
            if s.store.live.channels[n].enabled = true then
              (s.trackers[n].complete s.store.live.channels[n] s.engine.scanCounter
                (validValues s.frontEnd.reference[n])).record
            else s.trackers[n]
          subs := s.subs.map fun e =>
            match results[e.channel] with
            | none => e
            | some r => (e.evaluate r).1 } →
    ((∀ k, choice = some k → k = 0 ∨ records.length ≤ k) → arrived = records.foldl (fun u r => u.arrive r) begun) →
    (∀ k, choice = some k → 1 ≤ k → k < records.length →
      arrived = (records.drop k).foldl (fun u r => u.arrive r)
        (goesOn (exec .arbiterChoice) ((records.take k).foldl (fun u r => u.arrive r) begun))) →
    cleared =
      { arrived with
        frontEnd :=
          { arrived.frontEnd with slot := none, measure := .replicate 16 [], reference := .replicate 16 [] } } →
    (s.engine.runState = .scanning →
      (s.engine.scanLimit = 0 ∨ (s.engine.scansSinceStart + 1).toNat ≠ s.engine.scanLimit) →
      State.completeScan choice s = { cleared with engine := { cleared.engine with runState := .waiting } }) ∧
    ((s.engine.runState = .draining ∨
        1 ≤ s.engine.scanLimit ∧ (s.engine.scansSinceStart + 1).toNat = s.engine.scanLimit) →
      State.completeScan choice s = cleared.enterStandby)

/-- OVERCURRENT (R59, R60), and what its latch and every other does: the key indices (R131), the entry made or raised, every other
entry as it was (R133), the notice (R136), and several latches in turn (R131); and the level of ALERT_N in every state (R141,
computed: log entry 17). -/
def Obligations.OvercurrentTrips : Prop :=
  (∀ s : State, s.phase = .running →
    (s.drivers.a = .on → exec (.overcurrent .a) s = .next
      (latched [.excitationTrip .a] { s with drivers := { s.drivers with a := .tripped } })) ∧
    (s.drivers.b = .on → exec (.overcurrent .b) s = .next
      (latched [.excitationTrip .b] { s with drivers := { s.drivers with b := .tripped } })) ∧
    (s.drivers.a ≠ .on → exec (.overcurrent .a) s = .next s) ∧
    (s.drivers.b ≠ .on → exec (.overcurrent .b) s = .next s)) ∧
  (∀ key : AlertKey, key.index =
    match key with
    | .scanOverrun => 0
    | .triggerMissed => 1
    | .reportLoss => 2
    | .linkError => 3
    | .excitationTrip .a => 4
    | .excitationTrip .b => 5
    | .inputFault n => 6 + n.val
    | .offsetAtLimit n => 22 + n.val) ∧
  (∀ (key : AlertKey) (scan : Word32) (entries : List AlertEntry), AlertEntriesLaw entries →
    ((∀ e ∈ entries, e.key ≠ key) → latchesInto [key] scan entries =
      entries.filter (fun e => decide (e.key.index < key.index)) ++
        { key := key, firstScan := scan, lastScan := scan, occurrences := 1 } ::
          entries.filter (fun e => decide (key.index < e.key.index))) ∧
    (∀ before e after, entries = before ++ e :: after → e.key = key → latchesInto [key] scan entries =
      before ++ { e with lastScan := scan, occurrences := min (e.occurrences + 1) 65535 } :: after)) ∧
  (∀ (keys : List AlertKey) (key : AlertKey) (scan : Word32) (entries : List AlertEntry),
    latchesInto (keys ++ [key]) scan entries = latchesInto [key] scan (latchesInto keys scan entries)) ∧
  (∀ (key : AlertKey) (s : State),
    (s.alerts.noticeOutstanding = true → latched [key] s =
      { s with
        alerts := { entries := latchesInto [key] s.engine.scanCounter s.alerts.entries, noticeOutstanding := true } }) ∧
    (s.alerts.noticeOutstanding = false → latched [key] s =
      { s with
        alerts := { entries := latchesInto [key] s.engine.scanCounter s.alerts.entries, noticeOutstanding := true }
        link := { s.link with alertNotice := true } })) ∧
  ∀ s : State, s.alertN = .low ↔ s.alerts.entries ≠ [] ∧ s.store.live.device.alertLine = true

/-! ### The blocks' arithmetic -/

/-- An application: the fields, the epoch, the qualifier and the trackers (R20, R21, R34, R70, R89). -/
def Obligations.BatchApplication : Prop :=
  (∀ (b : Batch) (s : State) (new : Configuration), new = s.store.live.applyEdits b.edits →
    ∀ after : Fin 16 → TrackerResult, (∀ n : Fin 16, after n =
      s.trackers[n].applied s.store.live.channels[n] new.channels[n]
        (decide (s.store.live.device.level new.channels[n].exciteGroup ≠
          new.device.level new.channels[n].exciteGroup)) s.engine.scanCounter) →
    s.applyBatch b =
      latched (((List.finRange 16).filter fun n => (after n).clamped).map .offsetAtLimit)
        { s with
          store := { s.store with live := new, epoch := b.epoch, batch := none }
          engine :=
            { s.engine with
              qualifier :=
                if s.store.live.device.triggerEdge = new.device.triggerEdge ∧
                    s.store.live.device.triggerMinWidth = new.device.triggerMinWidth then s.engine.qualifier
                else .idle }
          trackers := .ofFn fun n : Fin 16 => (after n).record }) ∧
  ∀ (c : Configuration) (es : List Edit), EditsLaw es →
    (∀ e ∈ es, (c.applyEdits es).get e.field = e.value) ∧
    ∀ f : FieldRef, (∀ e ∈ es, e.field ≠ f) → (c.applyEdits es).get f = c.get f

/-- What an application makes of one tracker record (R88 to R92; that the clamp is judged at every application: log entry 18). -/
def Obligations.TrackerFollowsConfiguration : Prop :=
  ∀ (old new : ChannelConfig) (level : Bool) (scan : Word32) (t : Tracker), RecordLaw old t →
    ((t.applied old new level scan).clamped = true ↔
      new.zeroMode = .track ∧ new.maxCorrection < t.appliedOffset.natAbs) ∧
    (old.zeroMode = .track → new.zeroMode = .fixed → (t.applied old new level scan).record =
      { t with
        state := .off, window := [], remaining := 0, lastEstimate := none, appliedOffset := new.fixedOffset }) ∧
    (old.zeroMode = .fixed → new.zeroMode = .fixed → (t.applied old new level scan).record =
      { t with appliedOffset := new.fixedOffset }) ∧
    (old.zeroMode = .fixed → new.zeroMode = .track → (t.applied old new level scan).record =
      hardTriggered .mode scan { t with appliedOffset := boundedBy new.maxCorrection t.appliedOffset }) ∧
    (old.zeroMode = .track → new.zeroMode = .track →
      (new.enabled = true ∧ new.changeTrigger = true ∧ (old.gain ≠ new.gain ∨ old.oversample ≠ new.oversample ∨
          old.exciteGroup ≠ new.exciteGroup ∨ old.enabled = false ∨ level = true) →
        (t.applied old new level scan).record =
          hardTriggered .change scan { t with appliedOffset := boundedBy new.maxCorrection t.appliedOffset }) ∧
      (¬ (new.enabled = true ∧ new.changeTrigger = true ∧ (old.gain ≠ new.gain ∨ old.oversample ≠ new.oversample ∨
          old.exciteGroup ≠ new.exciteGroup ∨ old.enabled = false ∨ level = true)) →
        (t.applied old new level scan).record =
          { t with
            appliedOffset := boundedBy new.maxCorrection t.appliedOffset
            state :=
              match t.state with
              | .holding => if new.followScans = 255 then .continuous else .holding
              | .following =>
                if new.followScans = 255 then .continuous else if new.followScans = 0 ∧ old.followScans ≠ 0 then .holding
                else .following
              | .continuous => if new.followScans = 255 then .continuous else .holding
              | .hardPending => .hardPending
              | .off => .off
            remaining :=
              if t.state ≠ .following then t.remaining
              else if new.followScans = 255 then 0
              else if old.followScans = new.followScans then t.remaining
              else min t.remaining new.followScans }))

/-- What a completion makes of a record, by its state, and when a clamp changes the value it applies (R70, R71, R73 to R81, R84,
R85); without valid reference readings it makes nothing (R76). -/
def Obligations.TrackerAtCompletion : Prop :=
  (∀ (cfg : ChannelConfig) (scan : Word32) (t : Tracker), t.complete cfg scan [] = ⟨t, false⟩) ∧
  ∀ (cfg : ChannelConfig) (scan : Word32) (values window : List Int) (est replaced moved : Int) (t entered : Tracker)
    (r : TrackerResult),
    values ≠ [] → window = (t.window ++ values).drop ((t.window ++ values).length - 8) → est = estimate window →
    replaced = estimate (values.drop (values.length - 8)) →
    moved = t.appliedOffset + ((est - t.appliedOffset) * cfg.weight).tdiv 16 →
    entered = { t with window := window, lastEstimate := some est } → r = t.complete cfg scan values → ∀ hard soft : Prop,
    (hard ↔ cfg.hardThreshold ≠ 65535 ∧ (cfg.hardThreshold : Int) < |est - t.appliedOffset|) →
    (soft ↔ cfg.softThreshold ≠ 65535 ∧ (cfg.softThreshold : Int) < |est - t.appliedOffset|) →
    (t.state = .off → r = ⟨t, false⟩) ∧
    (t.state = .hardPending →
      r.record = followedUp cfg.followScans { entered with appliedOffset := boundedBy cfg.maxCorrection est } ∧
      (r.clamped = true ↔ (cfg.maxCorrection : Int) < |est|)) ∧
    ((t.state = .holding ∨ t.state = .following ∨ t.state = .continuous) → hard →
      r.record = hardAtThreshold cfg .hardThreshold scan values t ∧
      (r.clamped = true ↔ (cfg.maxCorrection : Int) < |replaced|)) ∧
    (t.state = .holding → ¬ hard → ¬ soft → r = ⟨entered, false⟩) ∧
    (t.state = .holding → ¬ hard → soft → cfg.thresholdResponse = .hard →
      r.record = hardAtThreshold cfg .softThreshold scan values t ∧
      (r.clamped = true ↔ (cfg.maxCorrection : Int) < |replaced|)) ∧
    (t.state = .holding → ¬ hard → soft → cfg.thresholdResponse = .soft →
      r.record =
        { entered with
          appliedOffset := boundedBy cfg.maxCorrection moved
          remaining := (if cfg.followScans = 0 then 1 else cfg.followScans) - 1
          state := if cfg.followScans ≤ 1 then .holding else .following
          lastTrigger := some ⟨.softThreshold, scan⟩
          triggerCount := t.triggerCount + 1 } ∧
      (r.clamped = true ↔ (cfg.maxCorrection : Int) < |moved|)) ∧
    (t.state = .following → ¬ hard → 1 ≤ t.remaining →
      r.record =
        { entered with
          appliedOffset := boundedBy cfg.maxCorrection moved
          remaining := t.remaining - 1
          state := if t.remaining = 1 then .holding else .following } ∧
      (r.clamped = true ↔ (cfg.maxCorrection : Int) < |moved|)) ∧
    (t.state = .continuous → ¬ hard →
      r.record = { entered with appliedOffset := boundedBy cfg.maxCorrection moved } ∧
      (r.clamped = true ↔ (cfg.maxCorrection : Int) < |moved|))

/-- The estimate is the trimmed mean of R72, whatever order the window is in, and lies within the range of its values. -/
def Obligations.EstimateIsTrimmedMean : Prop :=
  ∀ window sorted : List Int, sorted.Perm window → sorted.Pairwise (· ≤ ·) → 1 ≤ window.length → window.length ≤ 8 →
    estimate window =
      (if window.length ≤ 3 then sorted.sum.tdiv window.length
      else if window.length = 8 then ((sorted.drop 2).take 4).sum.tdiv 4
      else ((sorted.drop 1).take (window.length - 2)).sum.tdiv (window.length - 2 : Nat)) ∧
    ∀ low high : Int, (∀ v ∈ window, low ≤ v ∧ v ≤ high) → low ≤ estimate window ∧ estimate window ≤ high

/-- raw_mean, corrected, value and the flags of a result (R62, R64, R65, R66). -/
def Obligations.ChannelResultArithmetic : Prop :=
  ∀ (cfg : ChannelConfig) (scan : Word32) (epoch : Word16) (offset raw corrected value : Int)
    (measure reference : List Reading) (r : ChannelResult), r = channelResult cfg scan epoch offset measure reference →
    raw = (validValues measure).sum.tdiv (validValues measure).length →
    corrected = boundedBy 8388607 (raw - offset) → value = boundedBy 8388607 ((corrected * cfg.scale).tdiv 16384) →
    r.scanNumber = scan ∧ r.epoch = epoch ∧ r.offsetUsed = offset ∧ r.measureCount = (validValues measure).length ∧
    r.referenceCount = (validValues reference).length ∧
    (r.flags.openInput = true ↔ ∃ x ∈ measure ++ reference, x.outcome = .openInput) ∧
    (r.flags.saturated = true ↔ ∃ x ∈ measure ++ reference, x.outcome = .saturated) ∧
    (r.flags.noValue = true ↔ validValues measure = []) ∧
    (validValues measure = [] → r.measured = none ∧ r.flags.clamped = false) ∧
    (validValues measure ≠ [] → r.measured = some ⟨raw, corrected, value⟩ ∧
      (r.flags.clamped = true ↔ 8388607 < |raw - offset| ∨ 8388607 < |(corrected * cfg.scale).tdiv 16384|))

/-- R105: EVERY. R106: DEADBAND. R107, R108: LIMIT. R109, R110: the record. -/
def Obligations.SubscriptionsEvaluated : Prop :=
  ∀ (e : Subscription) (r : ChannelResult) (zone : Option Zone) (record : ReportRecord),
    record =
      { subId := e.id, channel := e.channel, scanNumber := r.scanNumber, epoch := r.epoch, flags := r.flags,
        zone := zone,
        value := match r.measured with
          | none => none
          | some m => some m.value,
        rawMean := match r.measured, e.withRaw with
          | some m, true => some m.rawMean
          | _, _ => none,
        offsetUsed := if e.withOffset = true then some r.offsetUsed else none } →
    (∀ n, e.condition = .every n → zone = none →
      (e.scansCounted + 1 = n → e.evaluate r = ({ e with scansCounted := 0 }, some record)) ∧
      (e.scansCounted + 1 ≠ n → e.evaluate r = ({ e with scansCounted := e.scansCounted + 1 }, none))) ∧
    (∀ d, e.condition = .deadband d → zone = none →
      (r.measured = none → e.evaluate r = (e, none)) ∧
      (∀ m, r.measured = some m →
        (e.lastReported = none → e.evaluate r = ({ e with lastReported := some m.value }, some record)) ∧
        (∀ last, e.lastReported = some last →
          (d ≤ |m.value - last| → e.evaluate r = ({ e with lastReported := some m.value }, some record)) ∧
          (|m.value - last| < d → e.evaluate r = (e, none))))) ∧
    (∀ low high hysteresis, e.condition = .limit low high hysteresis → ConditionLaw e.condition →
      (r.measured = none → e.evaluate r = (e, none)) ∧
      (∀ m next, r.measured = some m → zone = some next →
        (next = .above ↔ high < m.value ∨ e.zone = .above ∧ high - hysteresis < m.value) →
        (next = .below ↔ m.value < low ∨ e.zone = .below ∧ m.value < low + hysteresis) → next ≠ .unknown →
        (next = e.zone → e.evaluate r = (e, none)) ∧
        (next ≠ e.zone → e.evaluate r = ({ e with zone := next }, some record))))

/-- An arrival, by the queue's room and the policy (R118, R119, R120, R121, R130). -/
def Obligations.ArrivalsAndLosses : Prop :=
  ∀ (s : State) (r : ReportRecord) (created : Word32), created = s.report.counters.created + 1 →
    (s.report.queue.length < 48 → s.arrive r =
      { s with
        report :=
          { s.report with
            queue := s.report.queue ++ [.report r]
            counters := { s.report.counters with created := created } } }) ∧
    (48 ≤ s.report.queue.length → s.report.policy = .dropNewest → s.arrive r =
      latched [.reportLoss]
        { s with
          report :=
            { s.report with
              tally := some
                (match s.report.tally with
                  | none => ⟨1, r.scanNumber, r.scanNumber⟩
                  | some l => ⟨min (l.count + 1) 65535, l.first, r.scanNumber⟩)
              counters :=
                { s.report.counters with created := created, lost := s.report.counters.lost + 1 } } }) ∧
    (∀ oldest rest, s.report.queue = .report oldest :: rest → 48 ≤ s.report.queue.length →
      s.report.policy = .dropOldest → s.arrive r =
        latched [.reportLoss]
          { s with
            report :=
              { s.report with
                queue := rest ++ [.report r]
                tally := some
                  (match s.report.tally with
                    | none => ⟨1, oldest.scanNumber, oldest.scanNumber⟩
                    | some l => ⟨min (l.count + 1) 65535, l.first, oldest.scanNumber⟩)
                counters :=
                  { s.report.counters with created := created, lost := s.report.counters.lost + 1 } } })

/-! ### Laws that every step keeps -/

/-- Every law of the model holds right after reset. -/
def Obligations.ResetHoldsTheLaws : Prop :=
  LinkLaw State.reset ∧ AlertLaw State.reset ∧ StartUpLaw State.reset ∧ QueueLaw State.reset.report ∧
  Account State.reset.report ∧ SubscriptionsLaw State.reset.subs ∧ ConfigLaw State.reset ∧ EngineLaw State.reset ∧
  DriverLaw State.reset ∧ FrontEndLaw State.reset ∧ TrackerLaw State.reset ∧
  State.reset.link.noticeSeq = State.reset.link.counters.noticesSent.setWidth 8

/-- R158, R160: the holding and the reply queue hold two at most, and the next notice's number is notices_sent modulo 256. -/
def Obligations.LinkLawKept : Prop :=
  ∀ s t : State, step s = .next t →
    (LinkLaw s → LinkLaw t) ∧
    (s.link.noticeSeq = s.link.counters.noticesSent.setWidth 8 → t.link.noticeSeq = t.link.counters.noticesSent.setWidth 8)

/-- R157: whatever command comes while the memory holds a request, either a reset follows, or the memory stays and no request
command takes a frame, or a request command or UNKNOWN_KIND takes the head frame, which differs from the remembered request in
SEQ, KIND or CRC and is remembered in its place. -/
def Obligations.MemoryNeverRepeats : Prop :=
  ∀ (c : Instr) (s t : State) (m : Remembered), exec c s = .next t → s.link.memory = some m →
    t.phase ≠ .running ∨
    (t.link.memory = some m ∧ (RequestCommand c → t.link.holding = s.link.holding)) ∨
    (RequestCommand c ∧ ∃ f m', s.link.holding = f :: t.link.holding ∧ ¬ m.sameAs f ∧ t.link.memory = some m' ∧
      m'.sameAs f)

/-- R117, R122, R128: the queue's bound, the tally, the credits and the account of records. -/
def Obligations.ReportSideLawKept : Prop :=
  ∀ s t : State, QueueLaw s.report → Account s.report → step s = .next t → QueueLaw t.report ∧ Account t.report

/-- R122: "no REPORT or GAP notice begins transmission while credits are 0"; each costs one credit. -/
def Obligations.NoReportWithoutCredit : Prop :=
  ∀ (c : Instr) (s t : State), exec c s = .next t → s.phase = .running → t.phase = .running →
    (t.report.counters.sent ≠ s.report.counters.sent ∨ t.report.counters.gapsSent ≠ s.report.counters.gapsSent) →
    1 ≤ s.report.credits ∧ t.report.credits = s.report.credits - 1 ∧ s.link.replies = [] ∧
      s.link.transmitter = .idle ∧ s.link.readyNotice = none ∧ s.link.rxdLow = false

/-- R132, R136 to R138: "At most one ALERT notice is outstanding, and the alert set holds at most one entry per key". -/
def Obligations.AlertLawKept : Prop := ∀ s t : State, AlertLaw s → step s = .next t → AlertLaw t

/-- R162: in reset and through start-up every block holds its reset values, and only the end of start-up starts the part. -/
def Obligations.StartUpLawKept : Prop :=
  ∀ s t : State, StartUpLaw s → step s = .next t →
    StartUpLaw t ∧ (s.phase ≠ .running → t.phase = .running → ∃ rest, s.pending = .startUpEnd :: rest)

/-- R26, R27, R48, R53, R58: the engine's counts, timer, settles and slot against its run state, and the drivers. -/
def Obligations.EngineLawKept : Prop :=
  ∀ s t : State, StartUpLaw s → EngineLaw s → DriverLaw s → step s = .next t → EngineLaw t ∧ DriverLaw t

/-- R9, R19, R20: the staging set, the batch and its epoch, and "The live configuration always passes checks 2 to 7". -/
def Obligations.ConfigLawKept : Prop := ∀ s t : State, ConfigLaw s → step s = .next t → ConfigLaw t

/-- R54 to R56, R62: the slot in flight, the lists and the channel results stay in their ranges. -/
def Obligations.FrontEndLawKept : Prop :=
  ∀ s t : State, ConfigLaw s → TrackerLaw s → EngineLaw s → FrontEndLaw s → step s = .next t → FrontEndLaw t

/-- R68, R69, R70: every tracker record agrees with its state and its configuration, and
"|applied_offset| ≤ the live max_correction of that channel". -/
def Obligations.TrackerLawKept : Prop :=
  ∀ s t : State, ConfigLaw s → FrontEndLaw s → TrackerLaw s → step s = .next t → TrackerLaw t

/-- R97, R98: the subscription table stays ascending, at most one entry per id, every field in its range. -/
def Obligations.SubscriptionsLawKept : Prop :=
  ∀ s t : State, SubscriptionsLaw s.subs → step s = .next t → SubscriptionsLaw t.subs

/-- R20, R37, R63: while a scan is in progress its configuration, epoch, snapshot and number do not change. -/
def Obligations.OneConfigurationPerScan : Prop :=
  ∀ (c : Instr) (s t : State), exec c s = .next t → InScan s → InScan t →
    t.store.live = s.store.live ∧ t.store.epoch = s.store.epoch ∧ t.engine.scanEpoch = s.engine.scanEpoch ∧
      t.engine.snapshot = s.engine.snapshot ∧ t.engine.scanCounter = s.engine.scanCounter

/-- R7, R8: the live configuration changes only by an application or a reset, and its standby-only fields only in STANDBY. -/
def Obligations.ConfigurationChangesOnlyByApplication : Prop :=
  ∀ (c : Instr) (s t : State), exec c s = .next t →
    ((t.store.live = s.store.live ∧ t.store.epoch = s.store.epoch) ∨
      (t.phase ≠ .running ∧ t.store.live = .defaults ∧ t.store.epoch = 0) ∨
      (∃ b, s.store.batch = some b ∧ t.store.live = s.store.live.applyEdits b.edits ∧ t.store.epoch = b.epoch ∧
        t.store.batch = none) ∨
      (c = .seal ∧ s.engine.runState = .standby ∧ t.store.live = s.store.live.applyEdits s.store.staging ∧
        t.store.epoch = (if s.store.epoch = 65535 then 1 else s.store.epoch + 1) ∧ t.store.batch = none)) ∧
    (ConfigLaw s → s.engine.runState ≠ .standby → t.phase = .running → ∀ f : FieldRef, f.standbyOnly = true →
      t.store.live.get f = s.store.live.get f)
end

