-- ==== Sys2Proof/Laws/State.lean ====
section
/-! SUPPORT. For each update of the state, the fields it leaves, one lemma per field, and the parts of `link` and `engine` that
the updates of those blocks leave. -/

namespace Sys2Proof.Machine

/-! ### State.placeAlert -/

@[simp] theorem State.placeAlert_pending (s : State) : (s.placeAlert).pending = s.pending := rfl
@[simp] theorem State.placeAlert_now (s : State) : (s.placeAlert).now = s.now := rfl
@[simp] theorem State.placeAlert_phase (s : State) : (s.placeAlert).phase = s.phase := rfl
@[simp] theorem State.placeAlert_session (s : State) : (s.placeAlert).session = s.session := rfl
@[simp] theorem State.placeAlert_store (s : State) : (s.placeAlert).store = s.store := rfl
@[simp] theorem State.placeAlert_engine (s : State) : (s.placeAlert).engine = s.engine := rfl
@[simp] theorem State.placeAlert_frontEnd (s : State) : (s.placeAlert).frontEnd = s.frontEnd := rfl
@[simp] theorem State.placeAlert_drivers (s : State) : (s.placeAlert).drivers = s.drivers := rfl
@[simp] theorem State.placeAlert_trackers (s : State) : (s.placeAlert).trackers = s.trackers := rfl
@[simp] theorem State.placeAlert_subs (s : State) : (s.placeAlert).subs = s.subs := rfl
@[simp] theorem State.placeAlert_report (s : State) : (s.placeAlert).report = s.report := rfl
@[simp] theorem State.placeAlert_link_rxState (s : State) :
    (s.placeAlert).link.rxState = s.link.rxState := rfl
@[simp] theorem State.placeAlert_link_rxFrame (s : State) :
    (s.placeAlert).link.rxFrame = s.link.rxFrame := rfl
@[simp] theorem State.placeAlert_link_rxdLow (s : State) :
    (s.placeAlert).link.rxdLow = s.link.rxdLow := rfl
@[simp] theorem State.placeAlert_link_startBit (s : State) :
    (s.placeAlert).link.startBit = s.link.startBit := rfl
@[simp] theorem State.placeAlert_link_holding (s : State) :
    (s.placeAlert).link.holding = s.link.holding := rfl
@[simp] theorem State.placeAlert_link_memory (s : State) :
    (s.placeAlert).link.memory = s.link.memory := rfl
@[simp] theorem State.placeAlert_link_replies (s : State) :
    (s.placeAlert).link.replies = s.link.replies := rfl
@[simp] theorem State.placeAlert_link_transmitter (s : State) :
    (s.placeAlert).link.transmitter = s.link.transmitter := rfl
@[simp] theorem State.placeAlert_link_readyNotice (s : State) :
    (s.placeAlert).link.readyNotice = s.link.readyNotice := rfl
@[simp] theorem State.placeAlert_link_noticeSeq (s : State) :
    (s.placeAlert).link.noticeSeq = s.link.noticeSeq := rfl
@[simp] theorem State.placeAlert_link_resetCause (s : State) :
    (s.placeAlert).link.resetCause = s.link.resetCause := rfl
@[simp] theorem State.placeAlert_link_resetTaken (s : State) :
    (s.placeAlert).link.resetTaken = s.link.resetTaken := rfl
@[simp] theorem State.placeAlert_link_rate (s : State) :
    (s.placeAlert).link.rate = s.link.rate := rfl
@[simp] theorem State.placeAlert_link_counters (s : State) :
    (s.placeAlert).link.counters = s.link.counters := rfl

/-! ### State.withdrawAlert -/

@[simp] theorem State.withdrawAlert_pending (s : State) : (s.withdrawAlert).pending = s.pending := rfl
@[simp] theorem State.withdrawAlert_now (s : State) : (s.withdrawAlert).now = s.now := rfl
@[simp] theorem State.withdrawAlert_phase (s : State) : (s.withdrawAlert).phase = s.phase := rfl
@[simp] theorem State.withdrawAlert_session (s : State) : (s.withdrawAlert).session = s.session := rfl
@[simp] theorem State.withdrawAlert_store (s : State) : (s.withdrawAlert).store = s.store := rfl
@[simp] theorem State.withdrawAlert_engine (s : State) : (s.withdrawAlert).engine = s.engine := rfl
@[simp] theorem State.withdrawAlert_frontEnd (s : State) : (s.withdrawAlert).frontEnd = s.frontEnd := rfl
@[simp] theorem State.withdrawAlert_drivers (s : State) : (s.withdrawAlert).drivers = s.drivers := rfl
@[simp] theorem State.withdrawAlert_trackers (s : State) : (s.withdrawAlert).trackers = s.trackers := rfl
@[simp] theorem State.withdrawAlert_subs (s : State) : (s.withdrawAlert).subs = s.subs := rfl
@[simp] theorem State.withdrawAlert_report (s : State) : (s.withdrawAlert).report = s.report := rfl
@[simp] theorem State.withdrawAlert_link_rxState (s : State) :
    (s.withdrawAlert).link.rxState = s.link.rxState := rfl
@[simp] theorem State.withdrawAlert_link_rxFrame (s : State) :
    (s.withdrawAlert).link.rxFrame = s.link.rxFrame := rfl
@[simp] theorem State.withdrawAlert_link_rxdLow (s : State) :
    (s.withdrawAlert).link.rxdLow = s.link.rxdLow := rfl
@[simp] theorem State.withdrawAlert_link_startBit (s : State) :
    (s.withdrawAlert).link.startBit = s.link.startBit := rfl
@[simp] theorem State.withdrawAlert_link_holding (s : State) :
    (s.withdrawAlert).link.holding = s.link.holding := rfl
@[simp] theorem State.withdrawAlert_link_memory (s : State) :
    (s.withdrawAlert).link.memory = s.link.memory := rfl
@[simp] theorem State.withdrawAlert_link_replies (s : State) :
    (s.withdrawAlert).link.replies = s.link.replies := rfl
@[simp] theorem State.withdrawAlert_link_transmitter (s : State) :
    (s.withdrawAlert).link.transmitter = s.link.transmitter := rfl
@[simp] theorem State.withdrawAlert_link_readyNotice (s : State) :
    (s.withdrawAlert).link.readyNotice = s.link.readyNotice := rfl
@[simp] theorem State.withdrawAlert_link_noticeSeq (s : State) :
    (s.withdrawAlert).link.noticeSeq = s.link.noticeSeq := rfl
@[simp] theorem State.withdrawAlert_link_resetCause (s : State) :
    (s.withdrawAlert).link.resetCause = s.link.resetCause := rfl
@[simp] theorem State.withdrawAlert_link_resetTaken (s : State) :
    (s.withdrawAlert).link.resetTaken = s.link.resetTaken := rfl
@[simp] theorem State.withdrawAlert_link_rate (s : State) :
    (s.withdrawAlert).link.rate = s.link.rate := rfl
@[simp] theorem State.withdrawAlert_link_counters (s : State) :
    (s.withdrawAlert).link.counters = s.link.counters := rfl

/-! ### State.takeHead -/

@[simp] theorem State.takeHead_pending (s : State) : (s.takeHead).pending = s.pending := rfl
@[simp] theorem State.takeHead_now (s : State) : (s.takeHead).now = s.now := rfl
@[simp] theorem State.takeHead_phase (s : State) : (s.takeHead).phase = s.phase := rfl
@[simp] theorem State.takeHead_session (s : State) : (s.takeHead).session = s.session := rfl
@[simp] theorem State.takeHead_store (s : State) : (s.takeHead).store = s.store := rfl
@[simp] theorem State.takeHead_engine (s : State) : (s.takeHead).engine = s.engine := rfl
@[simp] theorem State.takeHead_frontEnd (s : State) : (s.takeHead).frontEnd = s.frontEnd := rfl
@[simp] theorem State.takeHead_drivers (s : State) : (s.takeHead).drivers = s.drivers := rfl
@[simp] theorem State.takeHead_trackers (s : State) : (s.takeHead).trackers = s.trackers := rfl
@[simp] theorem State.takeHead_subs (s : State) : (s.takeHead).subs = s.subs := rfl
@[simp] theorem State.takeHead_report (s : State) : (s.takeHead).report = s.report := rfl
@[simp] theorem State.takeHead_alerts (s : State) : (s.takeHead).alerts = s.alerts := rfl
@[simp] theorem State.takeHead_link_rxState (s : State) :
    (s.takeHead).link.rxState = s.link.rxState := rfl
@[simp] theorem State.takeHead_link_rxFrame (s : State) :
    (s.takeHead).link.rxFrame = s.link.rxFrame := rfl
@[simp] theorem State.takeHead_link_rxdLow (s : State) :
    (s.takeHead).link.rxdLow = s.link.rxdLow := rfl
@[simp] theorem State.takeHead_link_startBit (s : State) :
    (s.takeHead).link.startBit = s.link.startBit := rfl
@[simp] theorem State.takeHead_link_memory (s : State) :
    (s.takeHead).link.memory = s.link.memory := rfl
@[simp] theorem State.takeHead_link_replies (s : State) :
    (s.takeHead).link.replies = s.link.replies := rfl
@[simp] theorem State.takeHead_link_transmitter (s : State) :
    (s.takeHead).link.transmitter = s.link.transmitter := rfl
@[simp] theorem State.takeHead_link_readyNotice (s : State) :
    (s.takeHead).link.readyNotice = s.link.readyNotice := rfl
@[simp] theorem State.takeHead_link_alertNotice (s : State) :
    (s.takeHead).link.alertNotice = s.link.alertNotice := rfl
@[simp] theorem State.takeHead_link_noticeSeq (s : State) :
    (s.takeHead).link.noticeSeq = s.link.noticeSeq := rfl
@[simp] theorem State.takeHead_link_resetCause (s : State) :
    (s.takeHead).link.resetCause = s.link.resetCause := rfl
@[simp] theorem State.takeHead_link_resetTaken (s : State) :
    (s.takeHead).link.resetTaken = s.link.resetTaken := rfl
@[simp] theorem State.takeHead_link_rate (s : State) :
    (s.takeHead).link.rate = s.link.rate := rfl
@[simp] theorem State.takeHead_link_counters (s : State) :
    (s.takeHead).link.counters = s.link.counters := rfl

/-! ### State.queueReply -/

@[simp] theorem State.queueReply_pending (r : Reply) (s : State) : (s.queueReply r).pending = s.pending := rfl
@[simp] theorem State.queueReply_now (r : Reply) (s : State) : (s.queueReply r).now = s.now := rfl
@[simp] theorem State.queueReply_phase (r : Reply) (s : State) : (s.queueReply r).phase = s.phase := rfl
@[simp] theorem State.queueReply_session (r : Reply) (s : State) : (s.queueReply r).session = s.session := rfl
@[simp] theorem State.queueReply_store (r : Reply) (s : State) : (s.queueReply r).store = s.store := rfl
@[simp] theorem State.queueReply_engine (r : Reply) (s : State) : (s.queueReply r).engine = s.engine := rfl
@[simp] theorem State.queueReply_frontEnd (r : Reply) (s : State) : (s.queueReply r).frontEnd = s.frontEnd := rfl
@[simp] theorem State.queueReply_drivers (r : Reply) (s : State) : (s.queueReply r).drivers = s.drivers := rfl
@[simp] theorem State.queueReply_trackers (r : Reply) (s : State) : (s.queueReply r).trackers = s.trackers := rfl
@[simp] theorem State.queueReply_subs (r : Reply) (s : State) : (s.queueReply r).subs = s.subs := rfl
@[simp] theorem State.queueReply_report (r : Reply) (s : State) : (s.queueReply r).report = s.report := rfl
@[simp] theorem State.queueReply_alerts (r : Reply) (s : State) : (s.queueReply r).alerts = s.alerts := rfl
@[simp] theorem State.queueReply_link_rxState (r : Reply) (s : State) :
    (s.queueReply r).link.rxState = s.link.rxState := rfl
@[simp] theorem State.queueReply_link_rxFrame (r : Reply) (s : State) :
    (s.queueReply r).link.rxFrame = s.link.rxFrame := rfl
@[simp] theorem State.queueReply_link_rxdLow (r : Reply) (s : State) :
    (s.queueReply r).link.rxdLow = s.link.rxdLow := rfl
@[simp] theorem State.queueReply_link_startBit (r : Reply) (s : State) :
    (s.queueReply r).link.startBit = s.link.startBit := rfl
@[simp] theorem State.queueReply_link_holding (r : Reply) (s : State) :
    (s.queueReply r).link.holding = s.link.holding := rfl
@[simp] theorem State.queueReply_link_memory (r : Reply) (s : State) :
    (s.queueReply r).link.memory = s.link.memory := rfl
@[simp] theorem State.queueReply_link_transmitter (r : Reply) (s : State) :
    (s.queueReply r).link.transmitter = s.link.transmitter := rfl
@[simp] theorem State.queueReply_link_readyNotice (r : Reply) (s : State) :
    (s.queueReply r).link.readyNotice = s.link.readyNotice := rfl
@[simp] theorem State.queueReply_link_alertNotice (r : Reply) (s : State) :
    (s.queueReply r).link.alertNotice = s.link.alertNotice := rfl
@[simp] theorem State.queueReply_link_noticeSeq (r : Reply) (s : State) :
    (s.queueReply r).link.noticeSeq = s.link.noticeSeq := rfl
@[simp] theorem State.queueReply_link_resetCause (r : Reply) (s : State) :
    (s.queueReply r).link.resetCause = s.link.resetCause := rfl
@[simp] theorem State.queueReply_link_resetTaken (r : Reply) (s : State) :
    (s.queueReply r).link.resetTaken = s.link.resetTaken := rfl
@[simp] theorem State.queueReply_link_rate (r : Reply) (s : State) :
    (s.queueReply r).link.rate = s.link.rate := rfl
@[simp] theorem State.queueReply_link_counters (r : Reply) (s : State) :
    (s.queueReply r).link.counters = s.link.counters := rfl

/-! ### State.answer -/

@[simp] theorem State.answer_pending (f : Frame) (kind : Byte) (body : List Byte) (s : State) : (s.answer f kind body).pending = s.pending := rfl
@[simp] theorem State.answer_now (f : Frame) (kind : Byte) (body : List Byte) (s : State) : (s.answer f kind body).now = s.now := rfl
@[simp] theorem State.answer_phase (f : Frame) (kind : Byte) (body : List Byte) (s : State) : (s.answer f kind body).phase = s.phase := rfl
@[simp] theorem State.answer_session (f : Frame) (kind : Byte) (body : List Byte) (s : State) : (s.answer f kind body).session = s.session := rfl
@[simp] theorem State.answer_store (f : Frame) (kind : Byte) (body : List Byte) (s : State) : (s.answer f kind body).store = s.store := rfl
@[simp] theorem State.answer_engine (f : Frame) (kind : Byte) (body : List Byte) (s : State) : (s.answer f kind body).engine = s.engine := rfl
@[simp] theorem State.answer_frontEnd (f : Frame) (kind : Byte) (body : List Byte) (s : State) : (s.answer f kind body).frontEnd = s.frontEnd := rfl
@[simp] theorem State.answer_drivers (f : Frame) (kind : Byte) (body : List Byte) (s : State) : (s.answer f kind body).drivers = s.drivers := rfl
@[simp] theorem State.answer_trackers (f : Frame) (kind : Byte) (body : List Byte) (s : State) : (s.answer f kind body).trackers = s.trackers := rfl
@[simp] theorem State.answer_subs (f : Frame) (kind : Byte) (body : List Byte) (s : State) : (s.answer f kind body).subs = s.subs := rfl
@[simp] theorem State.answer_report (f : Frame) (kind : Byte) (body : List Byte) (s : State) : (s.answer f kind body).report = s.report := rfl
@[simp] theorem State.answer_alerts (f : Frame) (kind : Byte) (body : List Byte) (s : State) : (s.answer f kind body).alerts = s.alerts := rfl
@[simp] theorem State.answer_link_rxState (f : Frame) (kind : Byte) (body : List Byte) (s : State) :
    (s.answer f kind body).link.rxState = s.link.rxState := rfl
@[simp] theorem State.answer_link_rxFrame (f : Frame) (kind : Byte) (body : List Byte) (s : State) :
    (s.answer f kind body).link.rxFrame = s.link.rxFrame := rfl
@[simp] theorem State.answer_link_rxdLow (f : Frame) (kind : Byte) (body : List Byte) (s : State) :
    (s.answer f kind body).link.rxdLow = s.link.rxdLow := rfl
@[simp] theorem State.answer_link_startBit (f : Frame) (kind : Byte) (body : List Byte) (s : State) :
    (s.answer f kind body).link.startBit = s.link.startBit := rfl
@[simp] theorem State.answer_link_holding (f : Frame) (kind : Byte) (body : List Byte) (s : State) :
    (s.answer f kind body).link.holding = s.link.holding := rfl
@[simp] theorem State.answer_link_transmitter (f : Frame) (kind : Byte) (body : List Byte) (s : State) :
    (s.answer f kind body).link.transmitter = s.link.transmitter := rfl
@[simp] theorem State.answer_link_readyNotice (f : Frame) (kind : Byte) (body : List Byte) (s : State) :
    (s.answer f kind body).link.readyNotice = s.link.readyNotice := rfl
@[simp] theorem State.answer_link_alertNotice (f : Frame) (kind : Byte) (body : List Byte) (s : State) :
    (s.answer f kind body).link.alertNotice = s.link.alertNotice := rfl
@[simp] theorem State.answer_link_noticeSeq (f : Frame) (kind : Byte) (body : List Byte) (s : State) :
    (s.answer f kind body).link.noticeSeq = s.link.noticeSeq := rfl
@[simp] theorem State.answer_link_resetCause (f : Frame) (kind : Byte) (body : List Byte) (s : State) :
    (s.answer f kind body).link.resetCause = s.link.resetCause := rfl
@[simp] theorem State.answer_link_resetTaken (f : Frame) (kind : Byte) (body : List Byte) (s : State) :
    (s.answer f kind body).link.resetTaken = s.link.resetTaken := rfl
@[simp] theorem State.answer_link_rate (f : Frame) (kind : Byte) (body : List Byte) (s : State) :
    (s.answer f kind body).link.rate = s.link.rate := rfl
@[simp] theorem State.answer_link_counters (f : Frame) (kind : Byte) (body : List Byte) (s : State) :
    (s.answer f kind body).link.counters = s.link.counters := rfl

/-! ### State.refuse -/

@[simp] theorem State.refuse_pending (k : RequestKind) (f : Frame) (r : Rejection) (s : State) : (s.refuse k f r).pending = s.pending := rfl
@[simp] theorem State.refuse_now (k : RequestKind) (f : Frame) (r : Rejection) (s : State) : (s.refuse k f r).now = s.now := rfl
@[simp] theorem State.refuse_phase (k : RequestKind) (f : Frame) (r : Rejection) (s : State) : (s.refuse k f r).phase = s.phase := rfl
@[simp] theorem State.refuse_session (k : RequestKind) (f : Frame) (r : Rejection) (s : State) : (s.refuse k f r).session = s.session := rfl
@[simp] theorem State.refuse_store (k : RequestKind) (f : Frame) (r : Rejection) (s : State) : (s.refuse k f r).store = s.store := rfl
@[simp] theorem State.refuse_engine (k : RequestKind) (f : Frame) (r : Rejection) (s : State) : (s.refuse k f r).engine = s.engine := rfl
@[simp] theorem State.refuse_frontEnd (k : RequestKind) (f : Frame) (r : Rejection) (s : State) : (s.refuse k f r).frontEnd = s.frontEnd := rfl
@[simp] theorem State.refuse_drivers (k : RequestKind) (f : Frame) (r : Rejection) (s : State) : (s.refuse k f r).drivers = s.drivers := rfl
@[simp] theorem State.refuse_trackers (k : RequestKind) (f : Frame) (r : Rejection) (s : State) : (s.refuse k f r).trackers = s.trackers := rfl
@[simp] theorem State.refuse_subs (k : RequestKind) (f : Frame) (r : Rejection) (s : State) : (s.refuse k f r).subs = s.subs := rfl
@[simp] theorem State.refuse_report (k : RequestKind) (f : Frame) (r : Rejection) (s : State) : (s.refuse k f r).report = s.report := rfl
@[simp] theorem State.refuse_alerts (k : RequestKind) (f : Frame) (r : Rejection) (s : State) : (s.refuse k f r).alerts = s.alerts := rfl
@[simp] theorem State.refuse_link_rxState (k : RequestKind) (f : Frame) (r : Rejection) (s : State) :
    (s.refuse k f r).link.rxState = s.link.rxState := rfl
@[simp] theorem State.refuse_link_rxFrame (k : RequestKind) (f : Frame) (r : Rejection) (s : State) :
    (s.refuse k f r).link.rxFrame = s.link.rxFrame := rfl
@[simp] theorem State.refuse_link_rxdLow (k : RequestKind) (f : Frame) (r : Rejection) (s : State) :
    (s.refuse k f r).link.rxdLow = s.link.rxdLow := rfl
@[simp] theorem State.refuse_link_startBit (k : RequestKind) (f : Frame) (r : Rejection) (s : State) :
    (s.refuse k f r).link.startBit = s.link.startBit := rfl
@[simp] theorem State.refuse_link_holding (k : RequestKind) (f : Frame) (r : Rejection) (s : State) :
    (s.refuse k f r).link.holding = s.link.holding := rfl
@[simp] theorem State.refuse_link_transmitter (k : RequestKind) (f : Frame) (r : Rejection) (s : State) :
    (s.refuse k f r).link.transmitter = s.link.transmitter := rfl
@[simp] theorem State.refuse_link_readyNotice (k : RequestKind) (f : Frame) (r : Rejection) (s : State) :
    (s.refuse k f r).link.readyNotice = s.link.readyNotice := rfl
@[simp] theorem State.refuse_link_alertNotice (k : RequestKind) (f : Frame) (r : Rejection) (s : State) :
    (s.refuse k f r).link.alertNotice = s.link.alertNotice := rfl
@[simp] theorem State.refuse_link_noticeSeq (k : RequestKind) (f : Frame) (r : Rejection) (s : State) :
    (s.refuse k f r).link.noticeSeq = s.link.noticeSeq := rfl
@[simp] theorem State.refuse_link_resetCause (k : RequestKind) (f : Frame) (r : Rejection) (s : State) :
    (s.refuse k f r).link.resetCause = s.link.resetCause := rfl
@[simp] theorem State.refuse_link_resetTaken (k : RequestKind) (f : Frame) (r : Rejection) (s : State) :
    (s.refuse k f r).link.resetTaken = s.link.resetTaken := rfl
@[simp] theorem State.refuse_link_rate (k : RequestKind) (f : Frame) (r : Rejection) (s : State) :
    (s.refuse k f r).link.rate = s.link.rate := rfl
@[simp] theorem State.refuse_link_counters (k : RequestKind) (f : Frame) (r : Rejection) (s : State) :
    (s.refuse k f r).link.counters = s.link.counters := rfl

/-! ### State.accept -/

@[simp] theorem State.accept_pending (k : RequestKind) (f : Frame) (contents : List Byte) (s : State) : (s.accept k f contents).pending = s.pending := rfl
@[simp] theorem State.accept_now (k : RequestKind) (f : Frame) (contents : List Byte) (s : State) : (s.accept k f contents).now = s.now := rfl
@[simp] theorem State.accept_phase (k : RequestKind) (f : Frame) (contents : List Byte) (s : State) : (s.accept k f contents).phase = s.phase := rfl
@[simp] theorem State.accept_session (k : RequestKind) (f : Frame) (contents : List Byte) (s : State) : (s.accept k f contents).session = s.session := rfl
@[simp] theorem State.accept_store (k : RequestKind) (f : Frame) (contents : List Byte) (s : State) : (s.accept k f contents).store = s.store := rfl
@[simp] theorem State.accept_engine (k : RequestKind) (f : Frame) (contents : List Byte) (s : State) : (s.accept k f contents).engine = s.engine := rfl
@[simp] theorem State.accept_frontEnd (k : RequestKind) (f : Frame) (contents : List Byte) (s : State) : (s.accept k f contents).frontEnd = s.frontEnd := rfl
@[simp] theorem State.accept_drivers (k : RequestKind) (f : Frame) (contents : List Byte) (s : State) : (s.accept k f contents).drivers = s.drivers := rfl
@[simp] theorem State.accept_trackers (k : RequestKind) (f : Frame) (contents : List Byte) (s : State) : (s.accept k f contents).trackers = s.trackers := rfl
@[simp] theorem State.accept_subs (k : RequestKind) (f : Frame) (contents : List Byte) (s : State) : (s.accept k f contents).subs = s.subs := rfl
@[simp] theorem State.accept_report (k : RequestKind) (f : Frame) (contents : List Byte) (s : State) : (s.accept k f contents).report = s.report := rfl
@[simp] theorem State.accept_alerts (k : RequestKind) (f : Frame) (contents : List Byte) (s : State) : (s.accept k f contents).alerts = s.alerts := rfl
@[simp] theorem State.accept_link_rxState (k : RequestKind) (f : Frame) (contents : List Byte) (s : State) :
    (s.accept k f contents).link.rxState = s.link.rxState := rfl
@[simp] theorem State.accept_link_rxFrame (k : RequestKind) (f : Frame) (contents : List Byte) (s : State) :
    (s.accept k f contents).link.rxFrame = s.link.rxFrame := rfl
@[simp] theorem State.accept_link_rxdLow (k : RequestKind) (f : Frame) (contents : List Byte) (s : State) :
    (s.accept k f contents).link.rxdLow = s.link.rxdLow := rfl
@[simp] theorem State.accept_link_startBit (k : RequestKind) (f : Frame) (contents : List Byte) (s : State) :
    (s.accept k f contents).link.startBit = s.link.startBit := rfl
@[simp] theorem State.accept_link_holding (k : RequestKind) (f : Frame) (contents : List Byte) (s : State) :
    (s.accept k f contents).link.holding = s.link.holding := rfl
@[simp] theorem State.accept_link_transmitter (k : RequestKind) (f : Frame) (contents : List Byte) (s : State) :
    (s.accept k f contents).link.transmitter = s.link.transmitter := rfl
@[simp] theorem State.accept_link_readyNotice (k : RequestKind) (f : Frame) (contents : List Byte) (s : State) :
    (s.accept k f contents).link.readyNotice = s.link.readyNotice := rfl
@[simp] theorem State.accept_link_alertNotice (k : RequestKind) (f : Frame) (contents : List Byte) (s : State) :
    (s.accept k f contents).link.alertNotice = s.link.alertNotice := rfl
@[simp] theorem State.accept_link_noticeSeq (k : RequestKind) (f : Frame) (contents : List Byte) (s : State) :
    (s.accept k f contents).link.noticeSeq = s.link.noticeSeq := rfl
@[simp] theorem State.accept_link_resetCause (k : RequestKind) (f : Frame) (contents : List Byte) (s : State) :
    (s.accept k f contents).link.resetCause = s.link.resetCause := rfl
@[simp] theorem State.accept_link_resetTaken (k : RequestKind) (f : Frame) (contents : List Byte) (s : State) :
    (s.accept k f contents).link.resetTaken = s.link.resetTaken := rfl
@[simp] theorem State.accept_link_rate (k : RequestKind) (f : Frame) (contents : List Byte) (s : State) :
    (s.accept k f contents).link.rate = s.link.rate := rfl
@[simp] theorem State.accept_link_counters (k : RequestKind) (f : Frame) (contents : List Byte) (s : State) :
    (s.accept k f contents).link.counters = s.link.counters := rfl

/-! ### State.driversStart -/

@[simp] theorem State.driversStart_pending (s : State) : (s.driversStart).pending = s.pending := rfl
@[simp] theorem State.driversStart_now (s : State) : (s.driversStart).now = s.now := rfl
@[simp] theorem State.driversStart_phase (s : State) : (s.driversStart).phase = s.phase := rfl
@[simp] theorem State.driversStart_session (s : State) : (s.driversStart).session = s.session := rfl
@[simp] theorem State.driversStart_store (s : State) : (s.driversStart).store = s.store := rfl
@[simp] theorem State.driversStart_engine (s : State) : (s.driversStart).engine = s.engine := rfl
@[simp] theorem State.driversStart_frontEnd (s : State) : (s.driversStart).frontEnd = s.frontEnd := rfl
@[simp] theorem State.driversStart_trackers (s : State) : (s.driversStart).trackers = s.trackers := rfl
@[simp] theorem State.driversStart_subs (s : State) : (s.driversStart).subs = s.subs := rfl
@[simp] theorem State.driversStart_report (s : State) : (s.driversStart).report = s.report := rfl
@[simp] theorem State.driversStart_alerts (s : State) : (s.driversStart).alerts = s.alerts := rfl
@[simp] theorem State.driversStart_link (s : State) : (s.driversStart).link = s.link := rfl

/-! ### State.driversRest -/

@[simp] theorem State.driversRest_pending (s : State) : (s.driversRest).pending = s.pending := rfl
@[simp] theorem State.driversRest_now (s : State) : (s.driversRest).now = s.now := rfl
@[simp] theorem State.driversRest_phase (s : State) : (s.driversRest).phase = s.phase := rfl
@[simp] theorem State.driversRest_session (s : State) : (s.driversRest).session = s.session := rfl
@[simp] theorem State.driversRest_store (s : State) : (s.driversRest).store = s.store := rfl
@[simp] theorem State.driversRest_engine (s : State) : (s.driversRest).engine = s.engine := rfl
@[simp] theorem State.driversRest_frontEnd (s : State) : (s.driversRest).frontEnd = s.frontEnd := rfl
@[simp] theorem State.driversRest_trackers (s : State) : (s.driversRest).trackers = s.trackers := rfl
@[simp] theorem State.driversRest_subs (s : State) : (s.driversRest).subs = s.subs := rfl
@[simp] theorem State.driversRest_report (s : State) : (s.driversRest).report = s.report := rfl
@[simp] theorem State.driversRest_alerts (s : State) : (s.driversRest).alerts = s.alerts := rfl
@[simp] theorem State.driversRest_link (s : State) : (s.driversRest).link = s.link := rfl

/-! ### State.driversWake -/

@[simp] theorem State.driversWake_pending (s : State) : (s.driversWake).pending = s.pending := rfl
@[simp] theorem State.driversWake_now (s : State) : (s.driversWake).now = s.now := rfl
@[simp] theorem State.driversWake_phase (s : State) : (s.driversWake).phase = s.phase := rfl
@[simp] theorem State.driversWake_session (s : State) : (s.driversWake).session = s.session := rfl
@[simp] theorem State.driversWake_store (s : State) : (s.driversWake).store = s.store := rfl
@[simp] theorem State.driversWake_engine (s : State) : (s.driversWake).engine = s.engine := rfl
@[simp] theorem State.driversWake_frontEnd (s : State) : (s.driversWake).frontEnd = s.frontEnd := rfl
@[simp] theorem State.driversWake_trackers (s : State) : (s.driversWake).trackers = s.trackers := rfl
@[simp] theorem State.driversWake_subs (s : State) : (s.driversWake).subs = s.subs := rfl
@[simp] theorem State.driversWake_report (s : State) : (s.driversWake).report = s.report := rfl
@[simp] theorem State.driversWake_alerts (s : State) : (s.driversWake).alerts = s.alerts := rfl
@[simp] theorem State.driversWake_link (s : State) : (s.driversWake).link = s.link := rfl

/-! ### State.countScan -/

@[simp] theorem State.countScan_pending (s : State) : (s.countScan).pending = s.pending := rfl
@[simp] theorem State.countScan_now (s : State) : (s.countScan).now = s.now := rfl
@[simp] theorem State.countScan_phase (s : State) : (s.countScan).phase = s.phase := rfl
@[simp] theorem State.countScan_session (s : State) : (s.countScan).session = s.session := rfl
@[simp] theorem State.countScan_store (s : State) : (s.countScan).store = s.store := rfl
@[simp] theorem State.countScan_frontEnd (s : State) : (s.countScan).frontEnd = s.frontEnd := rfl
@[simp] theorem State.countScan_drivers (s : State) : (s.countScan).drivers = s.drivers := rfl
@[simp] theorem State.countScan_trackers (s : State) : (s.countScan).trackers = s.trackers := rfl
@[simp] theorem State.countScan_subs (s : State) : (s.countScan).subs = s.subs := rfl
@[simp] theorem State.countScan_report (s : State) : (s.countScan).report = s.report := rfl
@[simp] theorem State.countScan_alerts (s : State) : (s.countScan).alerts = s.alerts := rfl
@[simp] theorem State.countScan_link (s : State) : (s.countScan).link = s.link := rfl
@[simp] theorem State.countScan_engine_runState (s : State) :
    (s.countScan).engine.runState = s.engine.runState := rfl
@[simp] theorem State.countScan_engine_mode (s : State) :
    (s.countScan).engine.mode = s.engine.mode := rfl
@[simp] theorem State.countScan_engine_scanLimit (s : State) :
    (s.countScan).engine.scanLimit = s.engine.scanLimit := rfl
@[simp] theorem State.countScan_engine_scansSinceStart (s : State) :
    (s.countScan).engine.scansSinceStart = s.engine.scansSinceStart := rfl
@[simp] theorem State.countScan_engine_timer (s : State) :
    (s.countScan).engine.timer = s.engine.timer := rfl
@[simp] theorem State.countScan_engine_settle (s : State) :
    (s.countScan).engine.settle = s.engine.settle := rfl
@[simp] theorem State.countScan_engine_qualifier (s : State) :
    (s.countScan).engine.qualifier = s.engine.qualifier := rfl
@[simp] theorem State.countScan_engine_snapshot (s : State) :
    (s.countScan).engine.snapshot = s.engine.snapshot := rfl
@[simp] theorem State.countScan_engine_scanEpoch (s : State) :
    (s.countScan).engine.scanEpoch = s.engine.scanEpoch := rfl
@[simp] theorem State.countScan_engine_sync (s : State) :
    (s.countScan).engine.sync = s.engine.sync := rfl

/-! ### State.reach -/

@[simp] theorem State.reach_pending (due : Nat) (s : State) : (s.reach due).pending = s.pending := rfl
@[simp] theorem State.reach_phase (due : Nat) (s : State) : (s.reach due).phase = s.phase := rfl
@[simp] theorem State.reach_session (due : Nat) (s : State) : (s.reach due).session = s.session := rfl
@[simp] theorem State.reach_store (due : Nat) (s : State) : (s.reach due).store = s.store := rfl
@[simp] theorem State.reach_engine (due : Nat) (s : State) : (s.reach due).engine = s.engine := rfl
@[simp] theorem State.reach_frontEnd (due : Nat) (s : State) : (s.reach due).frontEnd = s.frontEnd := rfl
@[simp] theorem State.reach_drivers (due : Nat) (s : State) : (s.reach due).drivers = s.drivers := rfl
@[simp] theorem State.reach_trackers (due : Nat) (s : State) : (s.reach due).trackers = s.trackers := rfl
@[simp] theorem State.reach_subs (due : Nat) (s : State) : (s.reach due).subs = s.subs := rfl
@[simp] theorem State.reach_report (due : Nat) (s : State) : (s.reach due).report = s.report := rfl
@[simp] theorem State.reach_alerts (due : Nat) (s : State) : (s.reach due).alerts = s.alerts := rfl
@[simp] theorem State.reach_link (due : Nat) (s : State) : (s.reach due).link = s.link := rfl

/-! ### State.leaveWakeListen -/

@[simp] theorem State.leaveWakeListen_pending (s : State) : (s.leaveWakeListen).pending = s.pending := rfl
@[simp] theorem State.leaveWakeListen_now (s : State) : (s.leaveWakeListen).now = s.now := rfl
@[simp] theorem State.leaveWakeListen_phase (s : State) : (s.leaveWakeListen).phase = s.phase := rfl
@[simp] theorem State.leaveWakeListen_session (s : State) : (s.leaveWakeListen).session = s.session := rfl
@[simp] theorem State.leaveWakeListen_store (s : State) : (s.leaveWakeListen).store = s.store := rfl
@[simp] theorem State.leaveWakeListen_engine (s : State) : (s.leaveWakeListen).engine = s.engine := rfl
@[simp] theorem State.leaveWakeListen_frontEnd (s : State) : (s.leaveWakeListen).frontEnd = s.frontEnd := rfl
@[simp] theorem State.leaveWakeListen_drivers (s : State) : (s.leaveWakeListen).drivers = s.drivers := rfl
@[simp] theorem State.leaveWakeListen_trackers (s : State) : (s.leaveWakeListen).trackers = s.trackers := rfl
@[simp] theorem State.leaveWakeListen_subs (s : State) : (s.leaveWakeListen).subs = s.subs := rfl
@[simp] theorem State.leaveWakeListen_report (s : State) : (s.leaveWakeListen).report = s.report := rfl
@[simp] theorem State.leaveWakeListen_alerts (s : State) : (s.leaveWakeListen).alerts = s.alerts := rfl
@[simp] theorem State.leaveWakeListen_link_rxFrame (s : State) :
    (s.leaveWakeListen).link.rxFrame = s.link.rxFrame := rfl
@[simp] theorem State.leaveWakeListen_link_rxdLow (s : State) :
    (s.leaveWakeListen).link.rxdLow = s.link.rxdLow := rfl
@[simp] theorem State.leaveWakeListen_link_startBit (s : State) :
    (s.leaveWakeListen).link.startBit = s.link.startBit := rfl
@[simp] theorem State.leaveWakeListen_link_holding (s : State) :
    (s.leaveWakeListen).link.holding = s.link.holding := rfl
@[simp] theorem State.leaveWakeListen_link_memory (s : State) :
    (s.leaveWakeListen).link.memory = s.link.memory := rfl
@[simp] theorem State.leaveWakeListen_link_replies (s : State) :
    (s.leaveWakeListen).link.replies = s.link.replies := rfl
@[simp] theorem State.leaveWakeListen_link_transmitter (s : State) :
    (s.leaveWakeListen).link.transmitter = s.link.transmitter := rfl
@[simp] theorem State.leaveWakeListen_link_readyNotice (s : State) :
    (s.leaveWakeListen).link.readyNotice = s.link.readyNotice := rfl
@[simp] theorem State.leaveWakeListen_link_alertNotice (s : State) :
    (s.leaveWakeListen).link.alertNotice = s.link.alertNotice := rfl
@[simp] theorem State.leaveWakeListen_link_noticeSeq (s : State) :
    (s.leaveWakeListen).link.noticeSeq = s.link.noticeSeq := rfl
@[simp] theorem State.leaveWakeListen_link_resetCause (s : State) :
    (s.leaveWakeListen).link.resetCause = s.link.resetCause := rfl
@[simp] theorem State.leaveWakeListen_link_resetTaken (s : State) :
    (s.leaveWakeListen).link.resetTaken = s.link.resetTaken := rfl
@[simp] theorem State.leaveWakeListen_link_rate (s : State) :
    (s.leaveWakeListen).link.rate = s.link.rate := rfl
@[simp] theorem State.leaveWakeListen_link_counters (s : State) :
    (s.leaveWakeListen).link.counters = s.link.counters := rfl

/-! ### State.restEngine -/

@[simp] theorem State.restEngine_pending (s : State) : (s.restEngine).pending = s.pending := rfl
@[simp] theorem State.restEngine_now (s : State) : (s.restEngine).now = s.now := rfl
@[simp] theorem State.restEngine_phase (s : State) : (s.restEngine).phase = s.phase := rfl
@[simp] theorem State.restEngine_session (s : State) : (s.restEngine).session = s.session := rfl
@[simp] theorem State.restEngine_store (s : State) : (s.restEngine).store = s.store := rfl
@[simp] theorem State.restEngine_frontEnd (s : State) : (s.restEngine).frontEnd = s.frontEnd := rfl
@[simp] theorem State.restEngine_trackers (s : State) : (s.restEngine).trackers = s.trackers := rfl
@[simp] theorem State.restEngine_subs (s : State) : (s.restEngine).subs = s.subs := rfl
@[simp] theorem State.restEngine_report (s : State) : (s.restEngine).report = s.report := rfl
@[simp] theorem State.restEngine_alerts (s : State) : (s.restEngine).alerts = s.alerts := rfl
@[simp] theorem State.restEngine_link_rxFrame (s : State) :
    (s.restEngine).link.rxFrame = s.link.rxFrame := rfl
@[simp] theorem State.restEngine_link_rxdLow (s : State) :
    (s.restEngine).link.rxdLow = s.link.rxdLow := rfl
@[simp] theorem State.restEngine_link_startBit (s : State) :
    (s.restEngine).link.startBit = s.link.startBit := rfl
@[simp] theorem State.restEngine_link_holding (s : State) :
    (s.restEngine).link.holding = s.link.holding := rfl
@[simp] theorem State.restEngine_link_memory (s : State) :
    (s.restEngine).link.memory = s.link.memory := rfl
@[simp] theorem State.restEngine_link_replies (s : State) :
    (s.restEngine).link.replies = s.link.replies := rfl
@[simp] theorem State.restEngine_link_transmitter (s : State) :
    (s.restEngine).link.transmitter = s.link.transmitter := rfl
@[simp] theorem State.restEngine_link_readyNotice (s : State) :
    (s.restEngine).link.readyNotice = s.link.readyNotice := rfl
@[simp] theorem State.restEngine_link_alertNotice (s : State) :
    (s.restEngine).link.alertNotice = s.link.alertNotice := rfl
@[simp] theorem State.restEngine_link_noticeSeq (s : State) :
    (s.restEngine).link.noticeSeq = s.link.noticeSeq := rfl
@[simp] theorem State.restEngine_link_resetCause (s : State) :
    (s.restEngine).link.resetCause = s.link.resetCause := rfl
@[simp] theorem State.restEngine_link_resetTaken (s : State) :
    (s.restEngine).link.resetTaken = s.link.resetTaken := rfl
@[simp] theorem State.restEngine_link_rate (s : State) :
    (s.restEngine).link.rate = s.link.rate := rfl
@[simp] theorem State.restEngine_link_counters (s : State) :
    (s.restEngine).link.counters = s.link.counters := rfl
@[simp] theorem State.restEngine_engine_runState (s : State) :
    (s.restEngine).engine.runState = s.engine.runState := rfl
@[simp] theorem State.restEngine_engine_mode (s : State) :
    (s.restEngine).engine.mode = s.engine.mode := rfl
@[simp] theorem State.restEngine_engine_scanLimit (s : State) :
    (s.restEngine).engine.scanLimit = s.engine.scanLimit := rfl
@[simp] theorem State.restEngine_engine_scansSinceStart (s : State) :
    (s.restEngine).engine.scansSinceStart = s.engine.scansSinceStart := rfl
@[simp] theorem State.restEngine_engine_scanCounter (s : State) :
    (s.restEngine).engine.scanCounter = s.engine.scanCounter := rfl
@[simp] theorem State.restEngine_engine_qualifier (s : State) :
    (s.restEngine).engine.qualifier = s.engine.qualifier := rfl
@[simp] theorem State.restEngine_engine_snapshot (s : State) :
    (s.restEngine).engine.snapshot = s.engine.snapshot := rfl
@[simp] theorem State.restEngine_engine_scanEpoch (s : State) :
    (s.restEngine).engine.scanEpoch = s.engine.scanEpoch := rfl
@[simp] theorem State.restEngine_engine_counters (s : State) :
    (s.restEngine).engine.counters = s.engine.counters := rfl
@[simp] theorem State.restEngine_engine_sync (s : State) :
    (s.restEngine).engine.sync = s.engine.sync := rfl

/-! ### State.setRunState -/

@[simp] theorem State.setRunState_pending (r : RunState) (s : State) : (s.setRunState r).pending = s.pending := rfl
@[simp] theorem State.setRunState_now (r : RunState) (s : State) : (s.setRunState r).now = s.now := rfl
@[simp] theorem State.setRunState_phase (r : RunState) (s : State) : (s.setRunState r).phase = s.phase := rfl
@[simp] theorem State.setRunState_session (r : RunState) (s : State) : (s.setRunState r).session = s.session := rfl
@[simp] theorem State.setRunState_store (r : RunState) (s : State) : (s.setRunState r).store = s.store := rfl
@[simp] theorem State.setRunState_frontEnd (r : RunState) (s : State) : (s.setRunState r).frontEnd = s.frontEnd := rfl
@[simp] theorem State.setRunState_drivers (r : RunState) (s : State) : (s.setRunState r).drivers = s.drivers := rfl
@[simp] theorem State.setRunState_trackers (r : RunState) (s : State) : (s.setRunState r).trackers = s.trackers := rfl
@[simp] theorem State.setRunState_subs (r : RunState) (s : State) : (s.setRunState r).subs = s.subs := rfl
@[simp] theorem State.setRunState_report (r : RunState) (s : State) : (s.setRunState r).report = s.report := rfl
@[simp] theorem State.setRunState_alerts (r : RunState) (s : State) : (s.setRunState r).alerts = s.alerts := rfl
@[simp] theorem State.setRunState_link (r : RunState) (s : State) : (s.setRunState r).link = s.link := rfl
@[simp] theorem State.setRunState_engine_mode (r : RunState) (s : State) :
    (s.setRunState r).engine.mode = s.engine.mode := rfl
@[simp] theorem State.setRunState_engine_scanLimit (r : RunState) (s : State) :
    (s.setRunState r).engine.scanLimit = s.engine.scanLimit := rfl
@[simp] theorem State.setRunState_engine_scansSinceStart (r : RunState) (s : State) :
    (s.setRunState r).engine.scansSinceStart = s.engine.scansSinceStart := rfl
@[simp] theorem State.setRunState_engine_scanCounter (r : RunState) (s : State) :
    (s.setRunState r).engine.scanCounter = s.engine.scanCounter := rfl
@[simp] theorem State.setRunState_engine_timer (r : RunState) (s : State) :
    (s.setRunState r).engine.timer = s.engine.timer := rfl
@[simp] theorem State.setRunState_engine_settle (r : RunState) (s : State) :
    (s.setRunState r).engine.settle = s.engine.settle := rfl
@[simp] theorem State.setRunState_engine_qualifier (r : RunState) (s : State) :
    (s.setRunState r).engine.qualifier = s.engine.qualifier := rfl
@[simp] theorem State.setRunState_engine_snapshot (r : RunState) (s : State) :
    (s.setRunState r).engine.snapshot = s.engine.snapshot := rfl
@[simp] theorem State.setRunState_engine_scanEpoch (r : RunState) (s : State) :
    (s.setRunState r).engine.scanEpoch = s.engine.scanEpoch := rfl
@[simp] theorem State.setRunState_engine_counters (r : RunState) (s : State) :
    (s.setRunState r).engine.counters = s.engine.counters := rfl
@[simp] theorem State.setRunState_engine_sync (r : RunState) (s : State) :
    (s.setRunState r).engine.sync = s.engine.sync := rfl

/-! ### State.enterSettling -/

@[simp] theorem State.enterSettling_pending (s : State) : (s.enterSettling).pending = s.pending := rfl
@[simp] theorem State.enterSettling_now (s : State) : (s.enterSettling).now = s.now := rfl
@[simp] theorem State.enterSettling_phase (s : State) : (s.enterSettling).phase = s.phase := rfl
@[simp] theorem State.enterSettling_session (s : State) : (s.enterSettling).session = s.session := rfl
@[simp] theorem State.enterSettling_store (s : State) : (s.enterSettling).store = s.store := rfl
@[simp] theorem State.enterSettling_frontEnd (s : State) : (s.enterSettling).frontEnd = s.frontEnd := rfl
@[simp] theorem State.enterSettling_trackers (s : State) : (s.enterSettling).trackers = s.trackers := rfl
@[simp] theorem State.enterSettling_subs (s : State) : (s.enterSettling).subs = s.subs := rfl
@[simp] theorem State.enterSettling_report (s : State) : (s.enterSettling).report = s.report := rfl
@[simp] theorem State.enterSettling_alerts (s : State) : (s.enterSettling).alerts = s.alerts := rfl
@[simp] theorem State.enterSettling_link_rxFrame (s : State) :
    (s.enterSettling).link.rxFrame = s.link.rxFrame := rfl
@[simp] theorem State.enterSettling_link_rxdLow (s : State) :
    (s.enterSettling).link.rxdLow = s.link.rxdLow := rfl
@[simp] theorem State.enterSettling_link_startBit (s : State) :
    (s.enterSettling).link.startBit = s.link.startBit := rfl
@[simp] theorem State.enterSettling_link_holding (s : State) :
    (s.enterSettling).link.holding = s.link.holding := rfl
@[simp] theorem State.enterSettling_link_memory (s : State) :
    (s.enterSettling).link.memory = s.link.memory := rfl
@[simp] theorem State.enterSettling_link_replies (s : State) :
    (s.enterSettling).link.replies = s.link.replies := rfl
@[simp] theorem State.enterSettling_link_transmitter (s : State) :
    (s.enterSettling).link.transmitter = s.link.transmitter := rfl
@[simp] theorem State.enterSettling_link_readyNotice (s : State) :
    (s.enterSettling).link.readyNotice = s.link.readyNotice := rfl
@[simp] theorem State.enterSettling_link_alertNotice (s : State) :
    (s.enterSettling).link.alertNotice = s.link.alertNotice := rfl
@[simp] theorem State.enterSettling_link_noticeSeq (s : State) :
    (s.enterSettling).link.noticeSeq = s.link.noticeSeq := rfl
@[simp] theorem State.enterSettling_link_resetCause (s : State) :
    (s.enterSettling).link.resetCause = s.link.resetCause := rfl
@[simp] theorem State.enterSettling_link_resetTaken (s : State) :
    (s.enterSettling).link.resetTaken = s.link.resetTaken := rfl
@[simp] theorem State.enterSettling_link_rate (s : State) :
    (s.enterSettling).link.rate = s.link.rate := rfl
@[simp] theorem State.enterSettling_link_counters (s : State) :
    (s.enterSettling).link.counters = s.link.counters := rfl
@[simp] theorem State.enterSettling_engine_mode (s : State) :
    (s.enterSettling).engine.mode = s.engine.mode := rfl
@[simp] theorem State.enterSettling_engine_scanLimit (s : State) :
    (s.enterSettling).engine.scanLimit = s.engine.scanLimit := rfl
@[simp] theorem State.enterSettling_engine_scansSinceStart (s : State) :
    (s.enterSettling).engine.scansSinceStart = s.engine.scansSinceStart := rfl
@[simp] theorem State.enterSettling_engine_scanCounter (s : State) :
    (s.enterSettling).engine.scanCounter = s.engine.scanCounter := rfl
@[simp] theorem State.enterSettling_engine_timer (s : State) :
    (s.enterSettling).engine.timer = s.engine.timer := rfl
@[simp] theorem State.enterSettling_engine_qualifier (s : State) :
    (s.enterSettling).engine.qualifier = s.engine.qualifier := rfl
@[simp] theorem State.enterSettling_engine_snapshot (s : State) :
    (s.enterSettling).engine.snapshot = s.engine.snapshot := rfl
@[simp] theorem State.enterSettling_engine_scanEpoch (s : State) :
    (s.enterSettling).engine.scanEpoch = s.engine.scanEpoch := rfl
@[simp] theorem State.enterSettling_engine_counters (s : State) :
    (s.enterSettling).engine.counters = s.engine.counters := rfl
@[simp] theorem State.enterSettling_engine_sync (s : State) :
    (s.enterSettling).engine.sync = s.engine.sync := rfl

/-! ### State.wakeByStartBit -/

@[simp] theorem State.wakeByStartBit_pending (s : State) : (s.wakeByStartBit).pending = s.pending := rfl
@[simp] theorem State.wakeByStartBit_now (s : State) : (s.wakeByStartBit).now = s.now := rfl
@[simp] theorem State.wakeByStartBit_phase (s : State) : (s.wakeByStartBit).phase = s.phase := rfl
@[simp] theorem State.wakeByStartBit_session (s : State) : (s.wakeByStartBit).session = s.session := rfl
@[simp] theorem State.wakeByStartBit_store (s : State) : (s.wakeByStartBit).store = s.store := rfl
@[simp] theorem State.wakeByStartBit_frontEnd (s : State) : (s.wakeByStartBit).frontEnd = s.frontEnd := rfl
@[simp] theorem State.wakeByStartBit_trackers (s : State) : (s.wakeByStartBit).trackers = s.trackers := rfl
@[simp] theorem State.wakeByStartBit_subs (s : State) : (s.wakeByStartBit).subs = s.subs := rfl
@[simp] theorem State.wakeByStartBit_report (s : State) : (s.wakeByStartBit).report = s.report := rfl
@[simp] theorem State.wakeByStartBit_alerts (s : State) : (s.wakeByStartBit).alerts = s.alerts := rfl
@[simp] theorem State.wakeByStartBit_link_rxFrame (s : State) :
    (s.wakeByStartBit).link.rxFrame = s.link.rxFrame := rfl
@[simp] theorem State.wakeByStartBit_link_rxdLow (s : State) :
    (s.wakeByStartBit).link.rxdLow = s.link.rxdLow := rfl
@[simp] theorem State.wakeByStartBit_link_startBit (s : State) :
    (s.wakeByStartBit).link.startBit = s.link.startBit := rfl
@[simp] theorem State.wakeByStartBit_link_holding (s : State) :
    (s.wakeByStartBit).link.holding = s.link.holding := rfl
@[simp] theorem State.wakeByStartBit_link_memory (s : State) :
    (s.wakeByStartBit).link.memory = s.link.memory := rfl
@[simp] theorem State.wakeByStartBit_link_replies (s : State) :
    (s.wakeByStartBit).link.replies = s.link.replies := rfl
@[simp] theorem State.wakeByStartBit_link_transmitter (s : State) :
    (s.wakeByStartBit).link.transmitter = s.link.transmitter := rfl
@[simp] theorem State.wakeByStartBit_link_readyNotice (s : State) :
    (s.wakeByStartBit).link.readyNotice = s.link.readyNotice := rfl
@[simp] theorem State.wakeByStartBit_link_alertNotice (s : State) :
    (s.wakeByStartBit).link.alertNotice = s.link.alertNotice := rfl
@[simp] theorem State.wakeByStartBit_link_noticeSeq (s : State) :
    (s.wakeByStartBit).link.noticeSeq = s.link.noticeSeq := rfl
@[simp] theorem State.wakeByStartBit_link_resetCause (s : State) :
    (s.wakeByStartBit).link.resetCause = s.link.resetCause := rfl
@[simp] theorem State.wakeByStartBit_link_resetTaken (s : State) :
    (s.wakeByStartBit).link.resetTaken = s.link.resetTaken := rfl
@[simp] theorem State.wakeByStartBit_link_rate (s : State) :
    (s.wakeByStartBit).link.rate = s.link.rate := rfl
@[simp] theorem State.wakeByStartBit_engine_mode (s : State) :
    (s.wakeByStartBit).engine.mode = s.engine.mode := rfl
@[simp] theorem State.wakeByStartBit_engine_scanLimit (s : State) :
    (s.wakeByStartBit).engine.scanLimit = s.engine.scanLimit := rfl
@[simp] theorem State.wakeByStartBit_engine_scansSinceStart (s : State) :
    (s.wakeByStartBit).engine.scansSinceStart = s.engine.scansSinceStart := rfl
@[simp] theorem State.wakeByStartBit_engine_scanCounter (s : State) :
    (s.wakeByStartBit).engine.scanCounter = s.engine.scanCounter := rfl
@[simp] theorem State.wakeByStartBit_engine_timer (s : State) :
    (s.wakeByStartBit).engine.timer = s.engine.timer := rfl
@[simp] theorem State.wakeByStartBit_engine_settle (s : State) :
    (s.wakeByStartBit).engine.settle = s.engine.settle := rfl
@[simp] theorem State.wakeByStartBit_engine_qualifier (s : State) :
    (s.wakeByStartBit).engine.qualifier = s.engine.qualifier := rfl
@[simp] theorem State.wakeByStartBit_engine_snapshot (s : State) :
    (s.wakeByStartBit).engine.snapshot = s.engine.snapshot := rfl
@[simp] theorem State.wakeByStartBit_engine_scanEpoch (s : State) :
    (s.wakeByStartBit).engine.scanEpoch = s.engine.scanEpoch := rfl
@[simp] theorem State.wakeByStartBit_engine_counters (s : State) :
    (s.wakeByStartBit).engine.counters = s.engine.counters := rfl
@[simp] theorem State.wakeByStartBit_engine_sync (s : State) :
    (s.wakeByStartBit).engine.sync = s.engine.sync := rfl

/-! ### State.beginNotice -/

@[simp] theorem State.beginNotice_pending (kind : Byte) (body : List Byte) (s : State) : (s.beginNotice kind body).pending = s.pending := rfl
@[simp] theorem State.beginNotice_now (kind : Byte) (body : List Byte) (s : State) : (s.beginNotice kind body).now = s.now := rfl
@[simp] theorem State.beginNotice_phase (kind : Byte) (body : List Byte) (s : State) : (s.beginNotice kind body).phase = s.phase := rfl
@[simp] theorem State.beginNotice_session (kind : Byte) (body : List Byte) (s : State) : (s.beginNotice kind body).session = s.session := rfl
@[simp] theorem State.beginNotice_store (kind : Byte) (body : List Byte) (s : State) : (s.beginNotice kind body).store = s.store := rfl
@[simp] theorem State.beginNotice_engine (kind : Byte) (body : List Byte) (s : State) : (s.beginNotice kind body).engine = s.engine := rfl
@[simp] theorem State.beginNotice_frontEnd (kind : Byte) (body : List Byte) (s : State) : (s.beginNotice kind body).frontEnd = s.frontEnd := rfl
@[simp] theorem State.beginNotice_drivers (kind : Byte) (body : List Byte) (s : State) : (s.beginNotice kind body).drivers = s.drivers := rfl
@[simp] theorem State.beginNotice_trackers (kind : Byte) (body : List Byte) (s : State) : (s.beginNotice kind body).trackers = s.trackers := rfl
@[simp] theorem State.beginNotice_subs (kind : Byte) (body : List Byte) (s : State) : (s.beginNotice kind body).subs = s.subs := rfl
@[simp] theorem State.beginNotice_report (kind : Byte) (body : List Byte) (s : State) : (s.beginNotice kind body).report = s.report := rfl
@[simp] theorem State.beginNotice_alerts (kind : Byte) (body : List Byte) (s : State) : (s.beginNotice kind body).alerts = s.alerts := rfl
@[simp] theorem State.beginNotice_link_rxState (kind : Byte) (body : List Byte) (s : State) :
    (s.beginNotice kind body).link.rxState = s.link.rxState := rfl
@[simp] theorem State.beginNotice_link_rxFrame (kind : Byte) (body : List Byte) (s : State) :
    (s.beginNotice kind body).link.rxFrame = s.link.rxFrame := rfl
@[simp] theorem State.beginNotice_link_rxdLow (kind : Byte) (body : List Byte) (s : State) :
    (s.beginNotice kind body).link.rxdLow = s.link.rxdLow := rfl
@[simp] theorem State.beginNotice_link_startBit (kind : Byte) (body : List Byte) (s : State) :
    (s.beginNotice kind body).link.startBit = s.link.startBit := rfl
@[simp] theorem State.beginNotice_link_holding (kind : Byte) (body : List Byte) (s : State) :
    (s.beginNotice kind body).link.holding = s.link.holding := rfl
@[simp] theorem State.beginNotice_link_memory (kind : Byte) (body : List Byte) (s : State) :
    (s.beginNotice kind body).link.memory = s.link.memory := rfl
@[simp] theorem State.beginNotice_link_replies (kind : Byte) (body : List Byte) (s : State) :
    (s.beginNotice kind body).link.replies = s.link.replies := rfl
@[simp] theorem State.beginNotice_link_readyNotice (kind : Byte) (body : List Byte) (s : State) :
    (s.beginNotice kind body).link.readyNotice = s.link.readyNotice := rfl
@[simp] theorem State.beginNotice_link_alertNotice (kind : Byte) (body : List Byte) (s : State) :
    (s.beginNotice kind body).link.alertNotice = s.link.alertNotice := rfl
@[simp] theorem State.beginNotice_link_resetCause (kind : Byte) (body : List Byte) (s : State) :
    (s.beginNotice kind body).link.resetCause = s.link.resetCause := rfl
@[simp] theorem State.beginNotice_link_resetTaken (kind : Byte) (body : List Byte) (s : State) :
    (s.beginNotice kind body).link.resetTaken = s.link.resetTaken := rfl
@[simp] theorem State.beginNotice_link_rate (kind : Byte) (body : List Byte) (s : State) :
    (s.beginNotice kind body).link.rate = s.link.rate := rfl

/-! ### State.beginReply -/

@[simp] theorem State.beginReply_pending (r : Reply) (s : State) : (s.beginReply r).pending = s.pending := rfl
@[simp] theorem State.beginReply_now (r : Reply) (s : State) : (s.beginReply r).now = s.now := rfl
@[simp] theorem State.beginReply_phase (r : Reply) (s : State) : (s.beginReply r).phase = s.phase := rfl
@[simp] theorem State.beginReply_session (r : Reply) (s : State) : (s.beginReply r).session = s.session := rfl
@[simp] theorem State.beginReply_store (r : Reply) (s : State) : (s.beginReply r).store = s.store := rfl
@[simp] theorem State.beginReply_engine (r : Reply) (s : State) : (s.beginReply r).engine = s.engine := rfl
@[simp] theorem State.beginReply_frontEnd (r : Reply) (s : State) : (s.beginReply r).frontEnd = s.frontEnd := rfl
@[simp] theorem State.beginReply_drivers (r : Reply) (s : State) : (s.beginReply r).drivers = s.drivers := rfl
@[simp] theorem State.beginReply_trackers (r : Reply) (s : State) : (s.beginReply r).trackers = s.trackers := rfl
@[simp] theorem State.beginReply_subs (r : Reply) (s : State) : (s.beginReply r).subs = s.subs := rfl
@[simp] theorem State.beginReply_report (r : Reply) (s : State) : (s.beginReply r).report = s.report := rfl
@[simp] theorem State.beginReply_alerts (r : Reply) (s : State) : (s.beginReply r).alerts = s.alerts := rfl
@[simp] theorem State.beginReply_link_rxState (r : Reply) (s : State) :
    (s.beginReply r).link.rxState = s.link.rxState := rfl
@[simp] theorem State.beginReply_link_rxFrame (r : Reply) (s : State) :
    (s.beginReply r).link.rxFrame = s.link.rxFrame := rfl
@[simp] theorem State.beginReply_link_rxdLow (r : Reply) (s : State) :
    (s.beginReply r).link.rxdLow = s.link.rxdLow := rfl
@[simp] theorem State.beginReply_link_startBit (r : Reply) (s : State) :
    (s.beginReply r).link.startBit = s.link.startBit := rfl
@[simp] theorem State.beginReply_link_holding (r : Reply) (s : State) :
    (s.beginReply r).link.holding = s.link.holding := rfl
@[simp] theorem State.beginReply_link_memory (r : Reply) (s : State) :
    (s.beginReply r).link.memory = s.link.memory := rfl
@[simp] theorem State.beginReply_link_readyNotice (r : Reply) (s : State) :
    (s.beginReply r).link.readyNotice = s.link.readyNotice := rfl
@[simp] theorem State.beginReply_link_alertNotice (r : Reply) (s : State) :
    (s.beginReply r).link.alertNotice = s.link.alertNotice := rfl
@[simp] theorem State.beginReply_link_noticeSeq (r : Reply) (s : State) :
    (s.beginReply r).link.noticeSeq = s.link.noticeSeq := rfl
@[simp] theorem State.beginReply_link_resetCause (r : Reply) (s : State) :
    (s.beginReply r).link.resetCause = s.link.resetCause := rfl
@[simp] theorem State.beginReply_link_resetTaken (r : Reply) (s : State) :
    (s.beginReply r).link.resetTaken = s.link.resetTaken := rfl
@[simp] theorem State.beginReply_link_rate (r : Reply) (s : State) :
    (s.beginReply r).link.rate = s.link.rate := rfl
@[simp] theorem State.beginReply_link_counters (r : Reply) (s : State) :
    (s.beginReply r).link.counters = s.link.counters := rfl

/-! ### State.beginReady -/

@[simp] theorem State.beginReady_pending (cause : ResetCause) (s : State) : (s.beginReady cause).pending = s.pending := rfl
@[simp] theorem State.beginReady_now (cause : ResetCause) (s : State) : (s.beginReady cause).now = s.now := rfl
@[simp] theorem State.beginReady_phase (cause : ResetCause) (s : State) : (s.beginReady cause).phase = s.phase := rfl
@[simp] theorem State.beginReady_session (cause : ResetCause) (s : State) : (s.beginReady cause).session = s.session := rfl
@[simp] theorem State.beginReady_store (cause : ResetCause) (s : State) : (s.beginReady cause).store = s.store := rfl
@[simp] theorem State.beginReady_engine (cause : ResetCause) (s : State) : (s.beginReady cause).engine = s.engine := rfl
@[simp] theorem State.beginReady_frontEnd (cause : ResetCause) (s : State) : (s.beginReady cause).frontEnd = s.frontEnd := rfl
@[simp] theorem State.beginReady_drivers (cause : ResetCause) (s : State) : (s.beginReady cause).drivers = s.drivers := rfl
@[simp] theorem State.beginReady_trackers (cause : ResetCause) (s : State) : (s.beginReady cause).trackers = s.trackers := rfl
@[simp] theorem State.beginReady_subs (cause : ResetCause) (s : State) : (s.beginReady cause).subs = s.subs := rfl
@[simp] theorem State.beginReady_report (cause : ResetCause) (s : State) : (s.beginReady cause).report = s.report := rfl
@[simp] theorem State.beginReady_alerts (cause : ResetCause) (s : State) : (s.beginReady cause).alerts = s.alerts := rfl

/-! ### State.beginAlert -/

@[simp] theorem State.beginAlert_pending (s : State) : (s.beginAlert).pending = s.pending := rfl
@[simp] theorem State.beginAlert_now (s : State) : (s.beginAlert).now = s.now := rfl
@[simp] theorem State.beginAlert_phase (s : State) : (s.beginAlert).phase = s.phase := rfl
@[simp] theorem State.beginAlert_session (s : State) : (s.beginAlert).session = s.session := rfl
@[simp] theorem State.beginAlert_store (s : State) : (s.beginAlert).store = s.store := rfl
@[simp] theorem State.beginAlert_engine (s : State) : (s.beginAlert).engine = s.engine := rfl
@[simp] theorem State.beginAlert_frontEnd (s : State) : (s.beginAlert).frontEnd = s.frontEnd := rfl
@[simp] theorem State.beginAlert_drivers (s : State) : (s.beginAlert).drivers = s.drivers := rfl
@[simp] theorem State.beginAlert_trackers (s : State) : (s.beginAlert).trackers = s.trackers := rfl
@[simp] theorem State.beginAlert_subs (s : State) : (s.beginAlert).subs = s.subs := rfl
@[simp] theorem State.beginAlert_report (s : State) : (s.beginAlert).report = s.report := rfl
@[simp] theorem State.beginAlert_alerts (s : State) : (s.beginAlert).alerts = s.alerts := rfl

/-! ### State.beginReport -/

@[simp] theorem State.beginReport_pending (o : Offer) (s : State) : (s.beginReport o).pending = s.pending := rfl
@[simp] theorem State.beginReport_now (o : Offer) (s : State) : (s.beginReport o).now = s.now := rfl
@[simp] theorem State.beginReport_phase (o : Offer) (s : State) : (s.beginReport o).phase = s.phase := rfl
@[simp] theorem State.beginReport_session (o : Offer) (s : State) : (s.beginReport o).session = s.session := rfl
@[simp] theorem State.beginReport_store (o : Offer) (s : State) : (s.beginReport o).store = s.store := rfl
@[simp] theorem State.beginReport_engine (o : Offer) (s : State) : (s.beginReport o).engine = s.engine := rfl
@[simp] theorem State.beginReport_frontEnd (o : Offer) (s : State) : (s.beginReport o).frontEnd = s.frontEnd := rfl
@[simp] theorem State.beginReport_drivers (o : Offer) (s : State) : (s.beginReport o).drivers = s.drivers := rfl
@[simp] theorem State.beginReport_trackers (o : Offer) (s : State) : (s.beginReport o).trackers = s.trackers := rfl
@[simp] theorem State.beginReport_subs (o : Offer) (s : State) : (s.beginReport o).subs = s.subs := rfl
@[simp] theorem State.beginReport_alerts (o : Offer) (s : State) : (s.beginReport o).alerts = s.alerts := rfl

/-! ### State.characterBegins -/

@[simp] theorem State.characterBegins_pending (s : State) : (s.characterBegins).pending = s.pending := rfl
@[simp] theorem State.characterBegins_now (s : State) : (s.characterBegins).now = s.now := rfl
@[simp] theorem State.characterBegins_phase (s : State) : (s.characterBegins).phase = s.phase := rfl
@[simp] theorem State.characterBegins_session (s : State) : (s.characterBegins).session = s.session := rfl
@[simp] theorem State.characterBegins_store (s : State) : (s.characterBegins).store = s.store := rfl
@[simp] theorem State.characterBegins_engine (s : State) : (s.characterBegins).engine = s.engine := rfl
@[simp] theorem State.characterBegins_frontEnd (s : State) : (s.characterBegins).frontEnd = s.frontEnd := rfl
@[simp] theorem State.characterBegins_drivers (s : State) : (s.characterBegins).drivers = s.drivers := rfl
@[simp] theorem State.characterBegins_trackers (s : State) : (s.characterBegins).trackers = s.trackers := rfl
@[simp] theorem State.characterBegins_subs (s : State) : (s.characterBegins).subs = s.subs := rfl
@[simp] theorem State.characterBegins_report (s : State) : (s.characterBegins).report = s.report := rfl
@[simp] theorem State.characterBegins_alerts (s : State) : (s.characterBegins).alerts = s.alerts := rfl
@[simp] theorem State.characterBegins_link_rxState (s : State) :
    (s.characterBegins).link.rxState = s.link.rxState := rfl
@[simp] theorem State.characterBegins_link_rxFrame (s : State) :
    (s.characterBegins).link.rxFrame = s.link.rxFrame := rfl
@[simp] theorem State.characterBegins_link_rxdLow (s : State) :
    (s.characterBegins).link.rxdLow = s.link.rxdLow := rfl
@[simp] theorem State.characterBegins_link_holding (s : State) :
    (s.characterBegins).link.holding = s.link.holding := rfl
@[simp] theorem State.characterBegins_link_memory (s : State) :
    (s.characterBegins).link.memory = s.link.memory := rfl
@[simp] theorem State.characterBegins_link_replies (s : State) :
    (s.characterBegins).link.replies = s.link.replies := rfl
@[simp] theorem State.characterBegins_link_transmitter (s : State) :
    (s.characterBegins).link.transmitter = s.link.transmitter := rfl
@[simp] theorem State.characterBegins_link_readyNotice (s : State) :
    (s.characterBegins).link.readyNotice = s.link.readyNotice := rfl
@[simp] theorem State.characterBegins_link_alertNotice (s : State) :
    (s.characterBegins).link.alertNotice = s.link.alertNotice := rfl
@[simp] theorem State.characterBegins_link_noticeSeq (s : State) :
    (s.characterBegins).link.noticeSeq = s.link.noticeSeq := rfl
@[simp] theorem State.characterBegins_link_resetCause (s : State) :
    (s.characterBegins).link.resetCause = s.link.resetCause := rfl
@[simp] theorem State.characterBegins_link_resetTaken (s : State) :
    (s.characterBegins).link.resetTaken = s.link.resetTaken := rfl
@[simp] theorem State.characterBegins_link_rate (s : State) :
    (s.characterBegins).link.rate = s.link.rate := rfl
@[simp] theorem State.characterBegins_link_counters (s : State) :
    (s.characterBegins).link.counters = s.link.counters := rfl

/-! ### State.characterEnds -/

@[simp] theorem State.characterEnds_pending (s : State) : (s.characterEnds).pending = s.pending := rfl
@[simp] theorem State.characterEnds_now (s : State) : (s.characterEnds).now = s.now := rfl
@[simp] theorem State.characterEnds_phase (s : State) : (s.characterEnds).phase = s.phase := rfl
@[simp] theorem State.characterEnds_session (s : State) : (s.characterEnds).session = s.session := rfl
@[simp] theorem State.characterEnds_store (s : State) : (s.characterEnds).store = s.store := rfl
@[simp] theorem State.characterEnds_engine (s : State) : (s.characterEnds).engine = s.engine := rfl
@[simp] theorem State.characterEnds_frontEnd (s : State) : (s.characterEnds).frontEnd = s.frontEnd := rfl
@[simp] theorem State.characterEnds_drivers (s : State) : (s.characterEnds).drivers = s.drivers := rfl
@[simp] theorem State.characterEnds_trackers (s : State) : (s.characterEnds).trackers = s.trackers := rfl
@[simp] theorem State.characterEnds_subs (s : State) : (s.characterEnds).subs = s.subs := rfl
@[simp] theorem State.characterEnds_report (s : State) : (s.characterEnds).report = s.report := rfl
@[simp] theorem State.characterEnds_alerts (s : State) : (s.characterEnds).alerts = s.alerts := rfl
@[simp] theorem State.characterEnds_link_rxState (s : State) :
    (s.characterEnds).link.rxState = s.link.rxState := rfl
@[simp] theorem State.characterEnds_link_rxFrame (s : State) :
    (s.characterEnds).link.rxFrame = s.link.rxFrame := rfl
@[simp] theorem State.characterEnds_link_rxdLow (s : State) :
    (s.characterEnds).link.rxdLow = s.link.rxdLow := rfl
@[simp] theorem State.characterEnds_link_holding (s : State) :
    (s.characterEnds).link.holding = s.link.holding := rfl
@[simp] theorem State.characterEnds_link_memory (s : State) :
    (s.characterEnds).link.memory = s.link.memory := rfl
@[simp] theorem State.characterEnds_link_replies (s : State) :
    (s.characterEnds).link.replies = s.link.replies := rfl
@[simp] theorem State.characterEnds_link_transmitter (s : State) :
    (s.characterEnds).link.transmitter = s.link.transmitter := rfl
@[simp] theorem State.characterEnds_link_readyNotice (s : State) :
    (s.characterEnds).link.readyNotice = s.link.readyNotice := rfl
@[simp] theorem State.characterEnds_link_alertNotice (s : State) :
    (s.characterEnds).link.alertNotice = s.link.alertNotice := rfl
@[simp] theorem State.characterEnds_link_noticeSeq (s : State) :
    (s.characterEnds).link.noticeSeq = s.link.noticeSeq := rfl
@[simp] theorem State.characterEnds_link_resetCause (s : State) :
    (s.characterEnds).link.resetCause = s.link.resetCause := rfl
@[simp] theorem State.characterEnds_link_resetTaken (s : State) :
    (s.characterEnds).link.resetTaken = s.link.resetTaken := rfl
@[simp] theorem State.characterEnds_link_rate (s : State) :
    (s.characterEnds).link.rate = s.link.rate := rfl
@[simp] theorem State.characterEnds_link_counters (s : State) :
    (s.characterEnds).link.counters = s.link.counters := rfl

/-! ### State.toHunt -/

@[simp] theorem State.toHunt_pending (s : State) : (s.toHunt).pending = s.pending := rfl
@[simp] theorem State.toHunt_now (s : State) : (s.toHunt).now = s.now := rfl
@[simp] theorem State.toHunt_phase (s : State) : (s.toHunt).phase = s.phase := rfl
@[simp] theorem State.toHunt_session (s : State) : (s.toHunt).session = s.session := rfl
@[simp] theorem State.toHunt_store (s : State) : (s.toHunt).store = s.store := rfl
@[simp] theorem State.toHunt_engine (s : State) : (s.toHunt).engine = s.engine := rfl
@[simp] theorem State.toHunt_frontEnd (s : State) : (s.toHunt).frontEnd = s.frontEnd := rfl
@[simp] theorem State.toHunt_drivers (s : State) : (s.toHunt).drivers = s.drivers := rfl
@[simp] theorem State.toHunt_trackers (s : State) : (s.toHunt).trackers = s.trackers := rfl
@[simp] theorem State.toHunt_subs (s : State) : (s.toHunt).subs = s.subs := rfl
@[simp] theorem State.toHunt_report (s : State) : (s.toHunt).report = s.report := rfl
@[simp] theorem State.toHunt_alerts (s : State) : (s.toHunt).alerts = s.alerts := rfl
@[simp] theorem State.toHunt_link_rxdLow (s : State) :
    (s.toHunt).link.rxdLow = s.link.rxdLow := rfl
@[simp] theorem State.toHunt_link_startBit (s : State) :
    (s.toHunt).link.startBit = s.link.startBit := rfl
@[simp] theorem State.toHunt_link_holding (s : State) :
    (s.toHunt).link.holding = s.link.holding := rfl
@[simp] theorem State.toHunt_link_memory (s : State) :
    (s.toHunt).link.memory = s.link.memory := rfl
@[simp] theorem State.toHunt_link_replies (s : State) :
    (s.toHunt).link.replies = s.link.replies := rfl
@[simp] theorem State.toHunt_link_transmitter (s : State) :
    (s.toHunt).link.transmitter = s.link.transmitter := rfl
@[simp] theorem State.toHunt_link_readyNotice (s : State) :
    (s.toHunt).link.readyNotice = s.link.readyNotice := rfl
@[simp] theorem State.toHunt_link_alertNotice (s : State) :
    (s.toHunt).link.alertNotice = s.link.alertNotice := rfl
@[simp] theorem State.toHunt_link_noticeSeq (s : State) :
    (s.toHunt).link.noticeSeq = s.link.noticeSeq := rfl
@[simp] theorem State.toHunt_link_resetCause (s : State) :
    (s.toHunt).link.resetCause = s.link.resetCause := rfl
@[simp] theorem State.toHunt_link_resetTaken (s : State) :
    (s.toHunt).link.resetTaken = s.link.resetTaken := rfl
@[simp] theorem State.toHunt_link_rate (s : State) :
    (s.toHunt).link.rate = s.link.rate := rfl
@[simp] theorem State.toHunt_link_counters (s : State) :
    (s.toHunt).link.counters = s.link.counters := rfl

/-! ### State.setReceiver -/

@[simp] theorem State.setReceiver_pending (r : RxState) (f : Option RxFrame) (s : State) : (s.setReceiver r f).pending = s.pending := rfl
@[simp] theorem State.setReceiver_now (r : RxState) (f : Option RxFrame) (s : State) : (s.setReceiver r f).now = s.now := rfl
@[simp] theorem State.setReceiver_phase (r : RxState) (f : Option RxFrame) (s : State) : (s.setReceiver r f).phase = s.phase := rfl
@[simp] theorem State.setReceiver_session (r : RxState) (f : Option RxFrame) (s : State) : (s.setReceiver r f).session = s.session := rfl
@[simp] theorem State.setReceiver_store (r : RxState) (f : Option RxFrame) (s : State) : (s.setReceiver r f).store = s.store := rfl
@[simp] theorem State.setReceiver_engine (r : RxState) (f : Option RxFrame) (s : State) : (s.setReceiver r f).engine = s.engine := rfl
@[simp] theorem State.setReceiver_frontEnd (r : RxState) (f : Option RxFrame) (s : State) : (s.setReceiver r f).frontEnd = s.frontEnd := rfl
@[simp] theorem State.setReceiver_drivers (r : RxState) (f : Option RxFrame) (s : State) : (s.setReceiver r f).drivers = s.drivers := rfl
@[simp] theorem State.setReceiver_trackers (r : RxState) (f : Option RxFrame) (s : State) : (s.setReceiver r f).trackers = s.trackers := rfl
@[simp] theorem State.setReceiver_subs (r : RxState) (f : Option RxFrame) (s : State) : (s.setReceiver r f).subs = s.subs := rfl
@[simp] theorem State.setReceiver_report (r : RxState) (f : Option RxFrame) (s : State) : (s.setReceiver r f).report = s.report := rfl
@[simp] theorem State.setReceiver_alerts (r : RxState) (f : Option RxFrame) (s : State) : (s.setReceiver r f).alerts = s.alerts := rfl
@[simp] theorem State.setReceiver_link_rxdLow (r : RxState) (f : Option RxFrame) (s : State) :
    (s.setReceiver r f).link.rxdLow = s.link.rxdLow := rfl
@[simp] theorem State.setReceiver_link_startBit (r : RxState) (f : Option RxFrame) (s : State) :
    (s.setReceiver r f).link.startBit = s.link.startBit := rfl
@[simp] theorem State.setReceiver_link_holding (r : RxState) (f : Option RxFrame) (s : State) :
    (s.setReceiver r f).link.holding = s.link.holding := rfl
@[simp] theorem State.setReceiver_link_memory (r : RxState) (f : Option RxFrame) (s : State) :
    (s.setReceiver r f).link.memory = s.link.memory := rfl
@[simp] theorem State.setReceiver_link_replies (r : RxState) (f : Option RxFrame) (s : State) :
    (s.setReceiver r f).link.replies = s.link.replies := rfl
@[simp] theorem State.setReceiver_link_transmitter (r : RxState) (f : Option RxFrame) (s : State) :
    (s.setReceiver r f).link.transmitter = s.link.transmitter := rfl
@[simp] theorem State.setReceiver_link_readyNotice (r : RxState) (f : Option RxFrame) (s : State) :
    (s.setReceiver r f).link.readyNotice = s.link.readyNotice := rfl
@[simp] theorem State.setReceiver_link_alertNotice (r : RxState) (f : Option RxFrame) (s : State) :
    (s.setReceiver r f).link.alertNotice = s.link.alertNotice := rfl
@[simp] theorem State.setReceiver_link_noticeSeq (r : RxState) (f : Option RxFrame) (s : State) :
    (s.setReceiver r f).link.noticeSeq = s.link.noticeSeq := rfl
@[simp] theorem State.setReceiver_link_resetCause (r : RxState) (f : Option RxFrame) (s : State) :
    (s.setReceiver r f).link.resetCause = s.link.resetCause := rfl
@[simp] theorem State.setReceiver_link_resetTaken (r : RxState) (f : Option RxFrame) (s : State) :
    (s.setReceiver r f).link.resetTaken = s.link.resetTaken := rfl
@[simp] theorem State.setReceiver_link_rate (r : RxState) (f : Option RxFrame) (s : State) :
    (s.setReceiver r f).link.rate = s.link.rate := rfl
@[simp] theorem State.setReceiver_link_counters (r : RxState) (f : Option RxFrame) (s : State) :
    (s.setReceiver r f).link.counters = s.link.counters := rfl

/-! ### State.holdFrame -/

@[simp] theorem State.holdFrame_pending (f : Frame) (s : State) : (s.holdFrame f).pending = s.pending := rfl
@[simp] theorem State.holdFrame_now (f : Frame) (s : State) : (s.holdFrame f).now = s.now := rfl
@[simp] theorem State.holdFrame_phase (f : Frame) (s : State) : (s.holdFrame f).phase = s.phase := rfl
@[simp] theorem State.holdFrame_session (f : Frame) (s : State) : (s.holdFrame f).session = s.session := rfl
@[simp] theorem State.holdFrame_store (f : Frame) (s : State) : (s.holdFrame f).store = s.store := rfl
@[simp] theorem State.holdFrame_engine (f : Frame) (s : State) : (s.holdFrame f).engine = s.engine := rfl
@[simp] theorem State.holdFrame_frontEnd (f : Frame) (s : State) : (s.holdFrame f).frontEnd = s.frontEnd := rfl
@[simp] theorem State.holdFrame_drivers (f : Frame) (s : State) : (s.holdFrame f).drivers = s.drivers := rfl
@[simp] theorem State.holdFrame_trackers (f : Frame) (s : State) : (s.holdFrame f).trackers = s.trackers := rfl
@[simp] theorem State.holdFrame_subs (f : Frame) (s : State) : (s.holdFrame f).subs = s.subs := rfl
@[simp] theorem State.holdFrame_report (f : Frame) (s : State) : (s.holdFrame f).report = s.report := rfl
@[simp] theorem State.holdFrame_alerts (f : Frame) (s : State) : (s.holdFrame f).alerts = s.alerts := rfl
@[simp] theorem State.holdFrame_link_rxdLow (f : Frame) (s : State) :
    (s.holdFrame f).link.rxdLow = s.link.rxdLow := rfl
@[simp] theorem State.holdFrame_link_startBit (f : Frame) (s : State) :
    (s.holdFrame f).link.startBit = s.link.startBit := rfl
@[simp] theorem State.holdFrame_link_memory (f : Frame) (s : State) :
    (s.holdFrame f).link.memory = s.link.memory := rfl
@[simp] theorem State.holdFrame_link_replies (f : Frame) (s : State) :
    (s.holdFrame f).link.replies = s.link.replies := rfl
@[simp] theorem State.holdFrame_link_transmitter (f : Frame) (s : State) :
    (s.holdFrame f).link.transmitter = s.link.transmitter := rfl
@[simp] theorem State.holdFrame_link_readyNotice (f : Frame) (s : State) :
    (s.holdFrame f).link.readyNotice = s.link.readyNotice := rfl
@[simp] theorem State.holdFrame_link_alertNotice (f : Frame) (s : State) :
    (s.holdFrame f).link.alertNotice = s.link.alertNotice := rfl
@[simp] theorem State.holdFrame_link_noticeSeq (f : Frame) (s : State) :
    (s.holdFrame f).link.noticeSeq = s.link.noticeSeq := rfl
@[simp] theorem State.holdFrame_link_resetCause (f : Frame) (s : State) :
    (s.holdFrame f).link.resetCause = s.link.resetCause := rfl
@[simp] theorem State.holdFrame_link_resetTaken (f : Frame) (s : State) :
    (s.holdFrame f).link.resetTaken = s.link.resetTaken := rfl
@[simp] theorem State.holdFrame_link_rate (f : Frame) (s : State) :
    (s.holdFrame f).link.rate = s.link.rate := rfl

/-! ### State.breakLink -/

@[simp] theorem State.breakLink_pending (s : State) : (s.breakLink).pending = s.pending := rfl
@[simp] theorem State.breakLink_now (s : State) : (s.breakLink).now = s.now := rfl
@[simp] theorem State.breakLink_phase (s : State) : (s.breakLink).phase = s.phase := rfl
@[simp] theorem State.breakLink_session (s : State) : (s.breakLink).session = s.session := rfl
@[simp] theorem State.breakLink_store (s : State) : (s.breakLink).store = s.store := rfl
@[simp] theorem State.breakLink_engine (s : State) : (s.breakLink).engine = s.engine := rfl
@[simp] theorem State.breakLink_frontEnd (s : State) : (s.breakLink).frontEnd = s.frontEnd := rfl
@[simp] theorem State.breakLink_drivers (s : State) : (s.breakLink).drivers = s.drivers := rfl
@[simp] theorem State.breakLink_trackers (s : State) : (s.breakLink).trackers = s.trackers := rfl
@[simp] theorem State.breakLink_subs (s : State) : (s.breakLink).subs = s.subs := rfl
@[simp] theorem State.breakLink_report (s : State) : (s.breakLink).report = s.report := rfl
@[simp] theorem State.breakLink_alerts (s : State) : (s.breakLink).alerts = s.alerts := rfl

/-! ### State.countCompletion -/

@[simp] theorem State.countCompletion_pending (s : State) : (s.countCompletion).pending = s.pending := rfl
@[simp] theorem State.countCompletion_now (s : State) : (s.countCompletion).now = s.now := rfl
@[simp] theorem State.countCompletion_phase (s : State) : (s.countCompletion).phase = s.phase := rfl
@[simp] theorem State.countCompletion_session (s : State) : (s.countCompletion).session = s.session := rfl
@[simp] theorem State.countCompletion_store (s : State) : (s.countCompletion).store = s.store := rfl
@[simp] theorem State.countCompletion_frontEnd (s : State) : (s.countCompletion).frontEnd = s.frontEnd := rfl
@[simp] theorem State.countCompletion_drivers (s : State) : (s.countCompletion).drivers = s.drivers := rfl
@[simp] theorem State.countCompletion_trackers (s : State) : (s.countCompletion).trackers = s.trackers := rfl
@[simp] theorem State.countCompletion_subs (s : State) : (s.countCompletion).subs = s.subs := rfl
@[simp] theorem State.countCompletion_report (s : State) : (s.countCompletion).report = s.report := rfl
@[simp] theorem State.countCompletion_alerts (s : State) : (s.countCompletion).alerts = s.alerts := rfl
@[simp] theorem State.countCompletion_link (s : State) : (s.countCompletion).link = s.link := rfl
@[simp] theorem State.countCompletion_engine_runState (s : State) :
    (s.countCompletion).engine.runState = s.engine.runState := rfl
@[simp] theorem State.countCompletion_engine_mode (s : State) :
    (s.countCompletion).engine.mode = s.engine.mode := rfl
@[simp] theorem State.countCompletion_engine_scanLimit (s : State) :
    (s.countCompletion).engine.scanLimit = s.engine.scanLimit := rfl
@[simp] theorem State.countCompletion_engine_scanCounter (s : State) :
    (s.countCompletion).engine.scanCounter = s.engine.scanCounter := rfl
@[simp] theorem State.countCompletion_engine_timer (s : State) :
    (s.countCompletion).engine.timer = s.engine.timer := rfl
@[simp] theorem State.countCompletion_engine_settle (s : State) :
    (s.countCompletion).engine.settle = s.engine.settle := rfl
@[simp] theorem State.countCompletion_engine_qualifier (s : State) :
    (s.countCompletion).engine.qualifier = s.engine.qualifier := rfl
@[simp] theorem State.countCompletion_engine_snapshot (s : State) :
    (s.countCompletion).engine.snapshot = s.engine.snapshot := rfl
@[simp] theorem State.countCompletion_engine_scanEpoch (s : State) :
    (s.countCompletion).engine.scanEpoch = s.engine.scanEpoch := rfl
@[simp] theorem State.countCompletion_engine_sync (s : State) :
    (s.countCompletion).engine.sync = s.engine.sync := rfl

/-! ### State.clearScan -/

@[simp] theorem State.clearScan_pending (s : State) : (s.clearScan).pending = s.pending := rfl
@[simp] theorem State.clearScan_now (s : State) : (s.clearScan).now = s.now := rfl
@[simp] theorem State.clearScan_phase (s : State) : (s.clearScan).phase = s.phase := rfl
@[simp] theorem State.clearScan_session (s : State) : (s.clearScan).session = s.session := rfl
@[simp] theorem State.clearScan_store (s : State) : (s.clearScan).store = s.store := rfl
@[simp] theorem State.clearScan_engine (s : State) : (s.clearScan).engine = s.engine := rfl
@[simp] theorem State.clearScan_drivers (s : State) : (s.clearScan).drivers = s.drivers := rfl
@[simp] theorem State.clearScan_trackers (s : State) : (s.clearScan).trackers = s.trackers := rfl
@[simp] theorem State.clearScan_subs (s : State) : (s.clearScan).subs = s.subs := rfl
@[simp] theorem State.clearScan_report (s : State) : (s.clearScan).report = s.report := rfl
@[simp] theorem State.clearScan_alerts (s : State) : (s.clearScan).alerts = s.alerts := rfl
@[simp] theorem State.clearScan_link (s : State) : (s.clearScan).link = s.link := rfl

/-! ### State.abortScan -/

@[simp] theorem State.abortScan_pending (s : State) : (s.abortScan).pending = s.pending := rfl
@[simp] theorem State.abortScan_now (s : State) : (s.abortScan).now = s.now := rfl
@[simp] theorem State.abortScan_phase (s : State) : (s.abortScan).phase = s.phase := rfl
@[simp] theorem State.abortScan_session (s : State) : (s.abortScan).session = s.session := rfl
@[simp] theorem State.abortScan_store (s : State) : (s.abortScan).store = s.store := rfl
@[simp] theorem State.abortScan_drivers (s : State) : (s.abortScan).drivers = s.drivers := rfl
@[simp] theorem State.abortScan_trackers (s : State) : (s.abortScan).trackers = s.trackers := rfl
@[simp] theorem State.abortScan_subs (s : State) : (s.abortScan).subs = s.subs := rfl
@[simp] theorem State.abortScan_report (s : State) : (s.abortScan).report = s.report := rfl
@[simp] theorem State.abortScan_alerts (s : State) : (s.abortScan).alerts = s.alerts := rfl
@[simp] theorem State.abortScan_link (s : State) : (s.abortScan).link = s.link := rfl
@[simp] theorem State.abortScan_engine_runState (s : State) :
    (s.abortScan).engine.runState = s.engine.runState := rfl
@[simp] theorem State.abortScan_engine_mode (s : State) :
    (s.abortScan).engine.mode = s.engine.mode := rfl
@[simp] theorem State.abortScan_engine_scanLimit (s : State) :
    (s.abortScan).engine.scanLimit = s.engine.scanLimit := rfl
@[simp] theorem State.abortScan_engine_scansSinceStart (s : State) :
    (s.abortScan).engine.scansSinceStart = s.engine.scansSinceStart := rfl
@[simp] theorem State.abortScan_engine_scanCounter (s : State) :
    (s.abortScan).engine.scanCounter = s.engine.scanCounter := rfl
@[simp] theorem State.abortScan_engine_timer (s : State) :
    (s.abortScan).engine.timer = s.engine.timer := rfl
@[simp] theorem State.abortScan_engine_settle (s : State) :
    (s.abortScan).engine.settle = s.engine.settle := rfl
@[simp] theorem State.abortScan_engine_qualifier (s : State) :
    (s.abortScan).engine.qualifier = s.engine.qualifier := rfl
@[simp] theorem State.abortScan_engine_snapshot (s : State) :
    (s.abortScan).engine.snapshot = s.engine.snapshot := rfl
@[simp] theorem State.abortScan_engine_scanEpoch (s : State) :
    (s.abortScan).engine.scanEpoch = s.engine.scanEpoch := rfl
@[simp] theorem State.abortScan_engine_sync (s : State) :
    (s.abortScan).engine.sync = s.engine.sync := rfl

/-! ### State.openSession -/

@[simp] theorem State.openSession_pending (policy : Policy) (credits : Nat) (s : State) : (s.openSession policy credits).pending = s.pending := rfl
@[simp] theorem State.openSession_now (policy : Policy) (credits : Nat) (s : State) : (s.openSession policy credits).now = s.now := rfl
@[simp] theorem State.openSession_phase (policy : Policy) (credits : Nat) (s : State) : (s.openSession policy credits).phase = s.phase := rfl
@[simp] theorem State.openSession_engine (policy : Policy) (credits : Nat) (s : State) : (s.openSession policy credits).engine = s.engine := rfl
@[simp] theorem State.openSession_frontEnd (policy : Policy) (credits : Nat) (s : State) : (s.openSession policy credits).frontEnd = s.frontEnd := rfl
@[simp] theorem State.openSession_drivers (policy : Policy) (credits : Nat) (s : State) : (s.openSession policy credits).drivers = s.drivers := rfl
@[simp] theorem State.openSession_trackers (policy : Policy) (credits : Nat) (s : State) : (s.openSession policy credits).trackers = s.trackers := rfl

/-! ### State.takeStartTriggers -/

@[simp] theorem State.takeStartTriggers_pending (s : State) : (s.takeStartTriggers).pending = s.pending := rfl
@[simp] theorem State.takeStartTriggers_now (s : State) : (s.takeStartTriggers).now = s.now := rfl
@[simp] theorem State.takeStartTriggers_phase (s : State) : (s.takeStartTriggers).phase = s.phase := rfl
@[simp] theorem State.takeStartTriggers_session (s : State) : (s.takeStartTriggers).session = s.session := rfl
@[simp] theorem State.takeStartTriggers_store (s : State) : (s.takeStartTriggers).store = s.store := rfl
@[simp] theorem State.takeStartTriggers_engine (s : State) : (s.takeStartTriggers).engine = s.engine := rfl
@[simp] theorem State.takeStartTriggers_frontEnd (s : State) : (s.takeStartTriggers).frontEnd = s.frontEnd := rfl
@[simp] theorem State.takeStartTriggers_drivers (s : State) : (s.takeStartTriggers).drivers = s.drivers := rfl
@[simp] theorem State.takeStartTriggers_subs (s : State) : (s.takeStartTriggers).subs = s.subs := rfl
@[simp] theorem State.takeStartTriggers_report (s : State) : (s.takeStartTriggers).report = s.report := rfl
@[simp] theorem State.takeStartTriggers_alerts (s : State) : (s.takeStartTriggers).alerts = s.alerts := rfl
@[simp] theorem State.takeStartTriggers_link (s : State) : (s.takeStartTriggers).link = s.link := rfl

/-! ### State.beginRun -/

@[simp] theorem State.beginRun_pending (mode : Mode) (limit : Nat) (s : State) : (s.beginRun mode limit).pending = s.pending := rfl
@[simp] theorem State.beginRun_now (mode : Mode) (limit : Nat) (s : State) : (s.beginRun mode limit).now = s.now := rfl
@[simp] theorem State.beginRun_phase (mode : Mode) (limit : Nat) (s : State) : (s.beginRun mode limit).phase = s.phase := rfl
@[simp] theorem State.beginRun_session (mode : Mode) (limit : Nat) (s : State) : (s.beginRun mode limit).session = s.session := rfl
@[simp] theorem State.beginRun_store (mode : Mode) (limit : Nat) (s : State) : (s.beginRun mode limit).store = s.store := rfl
@[simp] theorem State.beginRun_frontEnd (mode : Mode) (limit : Nat) (s : State) : (s.beginRun mode limit).frontEnd = s.frontEnd := rfl
@[simp] theorem State.beginRun_subs (mode : Mode) (limit : Nat) (s : State) : (s.beginRun mode limit).subs = s.subs := rfl
@[simp] theorem State.beginRun_report (mode : Mode) (limit : Nat) (s : State) : (s.beginRun mode limit).report = s.report := rfl
@[simp] theorem State.beginRun_alerts (mode : Mode) (limit : Nat) (s : State) : (s.beginRun mode limit).alerts = s.alerts := rfl
@[simp] theorem State.beginRun_link (mode : Mode) (limit : Nat) (s : State) : (s.beginRun mode limit).link = s.link := rfl

/-! ### State.reloadTimer -/

@[simp] theorem State.reloadTimer_pending (period due : Nat) (s : State) : (s.reloadTimer period due).pending = s.pending := rfl
@[simp] theorem State.reloadTimer_phase (period due : Nat) (s : State) : (s.reloadTimer period due).phase = s.phase := rfl
@[simp] theorem State.reloadTimer_session (period due : Nat) (s : State) : (s.reloadTimer period due).session = s.session := rfl
@[simp] theorem State.reloadTimer_store (period due : Nat) (s : State) : (s.reloadTimer period due).store = s.store := rfl
@[simp] theorem State.reloadTimer_frontEnd (period due : Nat) (s : State) : (s.reloadTimer period due).frontEnd = s.frontEnd := rfl
@[simp] theorem State.reloadTimer_drivers (period due : Nat) (s : State) : (s.reloadTimer period due).drivers = s.drivers := rfl
@[simp] theorem State.reloadTimer_trackers (period due : Nat) (s : State) : (s.reloadTimer period due).trackers = s.trackers := rfl
@[simp] theorem State.reloadTimer_subs (period due : Nat) (s : State) : (s.reloadTimer period due).subs = s.subs := rfl
@[simp] theorem State.reloadTimer_report (period due : Nat) (s : State) : (s.reloadTimer period due).report = s.report := rfl
@[simp] theorem State.reloadTimer_alerts (period due : Nat) (s : State) : (s.reloadTimer period due).alerts = s.alerts := rfl
@[simp] theorem State.reloadTimer_link (period due : Nat) (s : State) : (s.reloadTimer period due).link = s.link := rfl

/-! ### State.trigTransition -/

@[simp] theorem State.trigTransition_pending (direction : Edge) (s : State) : (s.trigTransition direction).pending = s.pending := rfl
@[simp] theorem State.trigTransition_now (direction : Edge) (s : State) : (s.trigTransition direction).now = s.now := rfl
@[simp] theorem State.trigTransition_phase (direction : Edge) (s : State) : (s.trigTransition direction).phase = s.phase := rfl
@[simp] theorem State.trigTransition_session (direction : Edge) (s : State) : (s.trigTransition direction).session = s.session := rfl
@[simp] theorem State.trigTransition_store (direction : Edge) (s : State) : (s.trigTransition direction).store = s.store := rfl
@[simp] theorem State.trigTransition_frontEnd (direction : Edge) (s : State) : (s.trigTransition direction).frontEnd = s.frontEnd := rfl
@[simp] theorem State.trigTransition_drivers (direction : Edge) (s : State) : (s.trigTransition direction).drivers = s.drivers := rfl
@[simp] theorem State.trigTransition_trackers (direction : Edge) (s : State) : (s.trigTransition direction).trackers = s.trackers := rfl
@[simp] theorem State.trigTransition_subs (direction : Edge) (s : State) : (s.trigTransition direction).subs = s.subs := rfl
@[simp] theorem State.trigTransition_report (direction : Edge) (s : State) : (s.trigTransition direction).report = s.report := rfl
@[simp] theorem State.trigTransition_alerts (direction : Edge) (s : State) : (s.trigTransition direction).alerts = s.alerts := rfl
@[simp] theorem State.trigTransition_link (direction : Edge) (s : State) : (s.trigTransition direction).link = s.link := rfl
@[simp] theorem State.trigTransition_engine_runState (direction : Edge) (s : State) :
    (s.trigTransition direction).engine.runState = s.engine.runState := rfl
@[simp] theorem State.trigTransition_engine_mode (direction : Edge) (s : State) :
    (s.trigTransition direction).engine.mode = s.engine.mode := rfl
@[simp] theorem State.trigTransition_engine_scanLimit (direction : Edge) (s : State) :
    (s.trigTransition direction).engine.scanLimit = s.engine.scanLimit := rfl
@[simp] theorem State.trigTransition_engine_scansSinceStart (direction : Edge) (s : State) :
    (s.trigTransition direction).engine.scansSinceStart = s.engine.scansSinceStart := rfl
@[simp] theorem State.trigTransition_engine_scanCounter (direction : Edge) (s : State) :
    (s.trigTransition direction).engine.scanCounter = s.engine.scanCounter := rfl
@[simp] theorem State.trigTransition_engine_timer (direction : Edge) (s : State) :
    (s.trigTransition direction).engine.timer = s.engine.timer := rfl
@[simp] theorem State.trigTransition_engine_settle (direction : Edge) (s : State) :
    (s.trigTransition direction).engine.settle = s.engine.settle := rfl
@[simp] theorem State.trigTransition_engine_snapshot (direction : Edge) (s : State) :
    (s.trigTransition direction).engine.snapshot = s.engine.snapshot := rfl
@[simp] theorem State.trigTransition_engine_scanEpoch (direction : Edge) (s : State) :
    (s.trigTransition direction).engine.scanEpoch = s.engine.scanEpoch := rfl
@[simp] theorem State.trigTransition_engine_counters (direction : Edge) (s : State) :
    (s.trigTransition direction).engine.counters = s.engine.counters := rfl
@[simp] theorem State.trigTransition_engine_sync (direction : Edge) (s : State) :
    (s.trigTransition direction).engine.sync = s.engine.sync := rfl

/-! ### State.enterDoze -/

@[simp] theorem State.enterDoze_pending (s : State) : (s.enterDoze).pending = s.pending := rfl
@[simp] theorem State.enterDoze_now (s : State) : (s.enterDoze).now = s.now := rfl
@[simp] theorem State.enterDoze_phase (s : State) : (s.enterDoze).phase = s.phase := rfl
@[simp] theorem State.enterDoze_session (s : State) : (s.enterDoze).session = s.session := rfl
@[simp] theorem State.enterDoze_store (s : State) : (s.enterDoze).store = s.store := rfl
@[simp] theorem State.enterDoze_frontEnd (s : State) : (s.enterDoze).frontEnd = s.frontEnd := rfl
@[simp] theorem State.enterDoze_trackers (s : State) : (s.enterDoze).trackers = s.trackers := rfl
@[simp] theorem State.enterDoze_subs (s : State) : (s.enterDoze).subs = s.subs := rfl
@[simp] theorem State.enterDoze_report (s : State) : (s.enterDoze).report = s.report := rfl
@[simp] theorem State.enterDoze_alerts (s : State) : (s.enterDoze).alerts = s.alerts := rfl
@[simp] theorem State.enterDoze_engine_mode (s : State) :
    (s.enterDoze).engine.mode = s.engine.mode := rfl
@[simp] theorem State.enterDoze_engine_scanLimit (s : State) :
    (s.enterDoze).engine.scanLimit = s.engine.scanLimit := rfl
@[simp] theorem State.enterDoze_engine_scansSinceStart (s : State) :
    (s.enterDoze).engine.scansSinceStart = s.engine.scansSinceStart := rfl
@[simp] theorem State.enterDoze_engine_scanCounter (s : State) :
    (s.enterDoze).engine.scanCounter = s.engine.scanCounter := rfl
@[simp] theorem State.enterDoze_engine_timer (s : State) :
    (s.enterDoze).engine.timer = s.engine.timer := rfl
@[simp] theorem State.enterDoze_engine_settle (s : State) :
    (s.enterDoze).engine.settle = s.engine.settle := rfl
@[simp] theorem State.enterDoze_engine_qualifier (s : State) :
    (s.enterDoze).engine.qualifier = s.engine.qualifier := rfl
@[simp] theorem State.enterDoze_engine_snapshot (s : State) :
    (s.enterDoze).engine.snapshot = s.engine.snapshot := rfl
@[simp] theorem State.enterDoze_engine_scanEpoch (s : State) :
    (s.enterDoze).engine.scanEpoch = s.engine.scanEpoch := rfl
@[simp] theorem State.enterDoze_engine_counters (s : State) :
    (s.enterDoze).engine.counters = s.engine.counters := rfl
@[simp] theorem State.enterDoze_engine_sync (s : State) :
    (s.enterDoze).engine.sync = s.engine.sync := rfl

end Sys2Proof.Machine
end

