-- ==== Sys2Proof/Laws/Alerts.lean ====
section
/-! SUPPORT. The alert unit: every latch is `latched`, what it leaves, and that latches keep the alert law (R131 to R136). -/

namespace Sys2Proof.Machine

/-! ### Latches -/

theorem latch_eq_latched (k : AlertKey) (s : State) : s.latch k = latched [k] s := by
  unfold State.latch
  cases h : s.alerts.noticeOutstanding <;> simp [h, latched, latchesInto, State.placeAlert]

@[simp] theorem latched_nil (s : State) : latched [] s = s := by
  simp [latched, latchesInto]

theorem latched_cons (k : AlertKey) (ks : List AlertKey) (s : State) :
    latched (k :: ks) s = latched ks (latched [k] s) := by
  simp [latched, latchesInto]

theorem latchAll_eq_latched (ks : List AlertKey) (s : State) : s.latchAll ks = latched ks s := by
  induction ks generalizing s with
  | nil => simp [State.latchAll]
  | cons k ks ih =>
    rw [latched_cons, ← ih, ← latch_eq_latched]
    rfl

theorem latched_append (ks js : List AlertKey) (s : State) : latched (ks ++ js) s = latched js (latched ks s) := by
  induction ks generalizing s with
  | nil => simp
  | cons k ks ih => rw [List.cons_append, latched_cons, ih, ← latched_cons]

/-! ### What latches leave -/

@[simp] theorem latched_pending (ks : List AlertKey) (s : State) : (latched ks s).pending = s.pending := rfl
@[simp] theorem latched_now (ks : List AlertKey) (s : State) : (latched ks s).now = s.now := rfl
@[simp] theorem latched_phase (ks : List AlertKey) (s : State) : (latched ks s).phase = s.phase := rfl
@[simp] theorem latched_session (ks : List AlertKey) (s : State) : (latched ks s).session = s.session := rfl
@[simp] theorem latched_store (ks : List AlertKey) (s : State) : (latched ks s).store = s.store := rfl
@[simp] theorem latched_engine (ks : List AlertKey) (s : State) : (latched ks s).engine = s.engine := rfl
@[simp] theorem latched_frontEnd (ks : List AlertKey) (s : State) : (latched ks s).frontEnd = s.frontEnd := rfl
@[simp] theorem latched_drivers (ks : List AlertKey) (s : State) : (latched ks s).drivers = s.drivers := rfl
@[simp] theorem latched_trackers (ks : List AlertKey) (s : State) : (latched ks s).trackers = s.trackers := rfl
@[simp] theorem latched_subs (ks : List AlertKey) (s : State) : (latched ks s).subs = s.subs := rfl
@[simp] theorem latched_report (ks : List AlertKey) (s : State) : (latched ks s).report = s.report := rfl
@[simp] theorem latched_link_rxState (ks : List AlertKey) (s : State) : (latched ks s).link.rxState = s.link.rxState := rfl
@[simp] theorem latched_link_rxFrame (ks : List AlertKey) (s : State) : (latched ks s).link.rxFrame = s.link.rxFrame := rfl
@[simp] theorem latched_link_rxdLow (ks : List AlertKey) (s : State) : (latched ks s).link.rxdLow = s.link.rxdLow := rfl
@[simp] theorem latched_link_startBit (ks : List AlertKey) (s : State) : (latched ks s).link.startBit = s.link.startBit := rfl
@[simp] theorem latched_link_holding (ks : List AlertKey) (s : State) : (latched ks s).link.holding = s.link.holding := rfl
@[simp] theorem latched_link_memory (ks : List AlertKey) (s : State) : (latched ks s).link.memory = s.link.memory := rfl
@[simp] theorem latched_link_replies (ks : List AlertKey) (s : State) : (latched ks s).link.replies = s.link.replies := rfl
@[simp] theorem latched_link_transmitter (ks : List AlertKey) (s : State) : (latched ks s).link.transmitter = s.link.transmitter := rfl
@[simp] theorem latched_link_readyNotice (ks : List AlertKey) (s : State) : (latched ks s).link.readyNotice = s.link.readyNotice := rfl
@[simp] theorem latched_link_noticeSeq (ks : List AlertKey) (s : State) : (latched ks s).link.noticeSeq = s.link.noticeSeq := rfl
@[simp] theorem latched_link_resetCause (ks : List AlertKey) (s : State) : (latched ks s).link.resetCause = s.link.resetCause := rfl
@[simp] theorem latched_link_resetTaken (ks : List AlertKey) (s : State) : (latched ks s).link.resetTaken = s.link.resetTaken := rfl
@[simp] theorem latched_link_rate (ks : List AlertKey) (s : State) : (latched ks s).link.rate = s.link.rate := rfl
@[simp] theorem latched_link_counters (ks : List AlertKey) (s : State) : (latched ks s).link.counters = s.link.counters := rfl
@[simp] theorem latch_pending (k : AlertKey) (s : State) : (s.latch k).pending = s.pending := by rw [latch_eq_latched]; rfl
@[simp] theorem latch_now (k : AlertKey) (s : State) : (s.latch k).now = s.now := by rw [latch_eq_latched]; rfl
@[simp] theorem latch_phase (k : AlertKey) (s : State) : (s.latch k).phase = s.phase := by rw [latch_eq_latched]; rfl
@[simp] theorem latch_session (k : AlertKey) (s : State) : (s.latch k).session = s.session := by rw [latch_eq_latched]; rfl
@[simp] theorem latch_store (k : AlertKey) (s : State) : (s.latch k).store = s.store := by rw [latch_eq_latched]; rfl
@[simp] theorem latch_engine (k : AlertKey) (s : State) : (s.latch k).engine = s.engine := by rw [latch_eq_latched]; rfl
@[simp] theorem latch_frontEnd (k : AlertKey) (s : State) : (s.latch k).frontEnd = s.frontEnd := by rw [latch_eq_latched]; rfl
@[simp] theorem latch_drivers (k : AlertKey) (s : State) : (s.latch k).drivers = s.drivers := by rw [latch_eq_latched]; rfl
@[simp] theorem latch_trackers (k : AlertKey) (s : State) : (s.latch k).trackers = s.trackers := by rw [latch_eq_latched]; rfl
@[simp] theorem latch_subs (k : AlertKey) (s : State) : (s.latch k).subs = s.subs := by rw [latch_eq_latched]; rfl
@[simp] theorem latch_report (k : AlertKey) (s : State) : (s.latch k).report = s.report := by rw [latch_eq_latched]; rfl
@[simp] theorem latch_link_rxState (k : AlertKey) (s : State) : (s.latch k).link.rxState = s.link.rxState := by
  rw [latch_eq_latched]; rfl
@[simp] theorem latch_link_rxFrame (k : AlertKey) (s : State) : (s.latch k).link.rxFrame = s.link.rxFrame := by
  rw [latch_eq_latched]; rfl
@[simp] theorem latch_link_rxdLow (k : AlertKey) (s : State) : (s.latch k).link.rxdLow = s.link.rxdLow := by
  rw [latch_eq_latched]; rfl
@[simp] theorem latch_link_startBit (k : AlertKey) (s : State) : (s.latch k).link.startBit = s.link.startBit := by
  rw [latch_eq_latched]; rfl
@[simp] theorem latch_link_holding (k : AlertKey) (s : State) : (s.latch k).link.holding = s.link.holding := by
  rw [latch_eq_latched]; rfl
@[simp] theorem latch_link_memory (k : AlertKey) (s : State) : (s.latch k).link.memory = s.link.memory := by
  rw [latch_eq_latched]; rfl
@[simp] theorem latch_link_replies (k : AlertKey) (s : State) : (s.latch k).link.replies = s.link.replies := by
  rw [latch_eq_latched]; rfl
@[simp] theorem latch_link_transmitter (k : AlertKey) (s : State) : (s.latch k).link.transmitter = s.link.transmitter := by
  rw [latch_eq_latched]; rfl
@[simp] theorem latch_link_readyNotice (k : AlertKey) (s : State) : (s.latch k).link.readyNotice = s.link.readyNotice := by
  rw [latch_eq_latched]; rfl
@[simp] theorem latch_link_noticeSeq (k : AlertKey) (s : State) : (s.latch k).link.noticeSeq = s.link.noticeSeq := by
  rw [latch_eq_latched]; rfl
@[simp] theorem latch_link_resetCause (k : AlertKey) (s : State) : (s.latch k).link.resetCause = s.link.resetCause := by
  rw [latch_eq_latched]; rfl
@[simp] theorem latch_link_resetTaken (k : AlertKey) (s : State) : (s.latch k).link.resetTaken = s.link.resetTaken := by
  rw [latch_eq_latched]; rfl
@[simp] theorem latch_link_rate (k : AlertKey) (s : State) : (s.latch k).link.rate = s.link.rate := by
  rw [latch_eq_latched]; rfl
@[simp] theorem latch_link_counters (k : AlertKey) (s : State) : (s.latch k).link.counters = s.link.counters := by
  rw [latch_eq_latched]; rfl
@[simp] theorem latchAll_pending (ks : List AlertKey) (s : State) : (s.latchAll ks).pending = s.pending := by rw [latchAll_eq_latched]; rfl
@[simp] theorem latchAll_now (ks : List AlertKey) (s : State) : (s.latchAll ks).now = s.now := by rw [latchAll_eq_latched]; rfl
@[simp] theorem latchAll_phase (ks : List AlertKey) (s : State) : (s.latchAll ks).phase = s.phase := by rw [latchAll_eq_latched]; rfl
@[simp] theorem latchAll_session (ks : List AlertKey) (s : State) : (s.latchAll ks).session = s.session := by rw [latchAll_eq_latched]; rfl
@[simp] theorem latchAll_store (ks : List AlertKey) (s : State) : (s.latchAll ks).store = s.store := by rw [latchAll_eq_latched]; rfl
@[simp] theorem latchAll_engine (ks : List AlertKey) (s : State) : (s.latchAll ks).engine = s.engine := by rw [latchAll_eq_latched]; rfl
@[simp] theorem latchAll_frontEnd (ks : List AlertKey) (s : State) : (s.latchAll ks).frontEnd = s.frontEnd := by rw [latchAll_eq_latched]; rfl
@[simp] theorem latchAll_drivers (ks : List AlertKey) (s : State) : (s.latchAll ks).drivers = s.drivers := by rw [latchAll_eq_latched]; rfl
@[simp] theorem latchAll_trackers (ks : List AlertKey) (s : State) : (s.latchAll ks).trackers = s.trackers := by rw [latchAll_eq_latched]; rfl
@[simp] theorem latchAll_subs (ks : List AlertKey) (s : State) : (s.latchAll ks).subs = s.subs := by rw [latchAll_eq_latched]; rfl
@[simp] theorem latchAll_report (ks : List AlertKey) (s : State) : (s.latchAll ks).report = s.report := by rw [latchAll_eq_latched]; rfl
@[simp] theorem latchAll_link_rxState (ks : List AlertKey) (s : State) : (s.latchAll ks).link.rxState = s.link.rxState := by
  rw [latchAll_eq_latched]; rfl
@[simp] theorem latchAll_link_rxFrame (ks : List AlertKey) (s : State) : (s.latchAll ks).link.rxFrame = s.link.rxFrame := by
  rw [latchAll_eq_latched]; rfl
@[simp] theorem latchAll_link_rxdLow (ks : List AlertKey) (s : State) : (s.latchAll ks).link.rxdLow = s.link.rxdLow := by
  rw [latchAll_eq_latched]; rfl
@[simp] theorem latchAll_link_startBit (ks : List AlertKey) (s : State) : (s.latchAll ks).link.startBit = s.link.startBit := by
  rw [latchAll_eq_latched]; rfl
@[simp] theorem latchAll_link_holding (ks : List AlertKey) (s : State) : (s.latchAll ks).link.holding = s.link.holding := by
  rw [latchAll_eq_latched]; rfl
@[simp] theorem latchAll_link_memory (ks : List AlertKey) (s : State) : (s.latchAll ks).link.memory = s.link.memory := by
  rw [latchAll_eq_latched]; rfl
@[simp] theorem latchAll_link_replies (ks : List AlertKey) (s : State) : (s.latchAll ks).link.replies = s.link.replies := by
  rw [latchAll_eq_latched]; rfl
@[simp] theorem latchAll_link_transmitter (ks : List AlertKey) (s : State) : (s.latchAll ks).link.transmitter = s.link.transmitter := by
  rw [latchAll_eq_latched]; rfl
@[simp] theorem latchAll_link_readyNotice (ks : List AlertKey) (s : State) : (s.latchAll ks).link.readyNotice = s.link.readyNotice := by
  rw [latchAll_eq_latched]; rfl
@[simp] theorem latchAll_link_noticeSeq (ks : List AlertKey) (s : State) : (s.latchAll ks).link.noticeSeq = s.link.noticeSeq := by
  rw [latchAll_eq_latched]; rfl
@[simp] theorem latchAll_link_resetCause (ks : List AlertKey) (s : State) : (s.latchAll ks).link.resetCause = s.link.resetCause := by
  rw [latchAll_eq_latched]; rfl
@[simp] theorem latchAll_link_resetTaken (ks : List AlertKey) (s : State) : (s.latchAll ks).link.resetTaken = s.link.resetTaken := by
  rw [latchAll_eq_latched]; rfl
@[simp] theorem latchAll_link_rate (ks : List AlertKey) (s : State) : (s.latchAll ks).link.rate = s.link.rate := by
  rw [latchAll_eq_latched]; rfl
@[simp] theorem latchAll_link_counters (ks : List AlertKey) (s : State) : (s.latchAll ks).link.counters = s.link.counters := by
  rw [latchAll_eq_latched]; rfl

/-! ### The alert set -/

theorem AlertKey.index_injective {a b : AlertKey} (h : a.index = b.index) : a = b := by
  rcases a with _ | _ | _ | _ | (_ | _) | n | n <;> rcases b with _ | _ | _ | _ | (_ | _) | m | m <;>
    simp [AlertKey.index] at h ⊢ <;> omega

theorem AlertKey.index_le (a : AlertKey) : a.index ≤ 37 := by
  rcases a with _ | _ | _ | _ | (_ | _) | n | n <;> simp [AlertKey.index] <;> omega

theorem latchInto_ne_nil (k : AlertKey) (scan : Word32) (es : List AlertEntry) : latchInto k scan es ≠ [] := by
  cases es with
  | nil => simp [latchInto]
  | cons e es => simp only [latchInto]; split_ifs <;> simp

/-- A latch adds no key but its own. -/
theorem mem_latchInto_index {k : AlertKey} {scan : Word32} {es : List AlertEntry} {x : AlertEntry}
    (h : x ∈ latchInto k scan es) : x.key = k ∨ ∃ e ∈ es, e.key = x.key := by
  induction es with
  | nil => simp [latchInto] at h; exact .inl (by rw [h])
  | cons e es ih =>
    simp only [latchInto] at h
    split_ifs at h with h1 h2
    · rcases List.mem_cons.1 h with rfl | h
      · exact .inl h1
      · exact .inr ⟨x, List.mem_cons_of_mem _ h, rfl⟩
    · rcases List.mem_cons.1 h with rfl | h
      · exact .inl rfl
      · exact .inr ⟨x, h, rfl⟩
    · rcases List.mem_cons.1 h with rfl | h
      · exact .inr ⟨x, List.mem_cons_self, rfl⟩
      · rcases ih h with h | ⟨e', he', hx⟩
        · exact .inl h
        · exact .inr ⟨e', List.mem_cons_of_mem _ he', hx⟩

theorem latchInto_keeps_law (k : AlertKey) (scan : Word32) {es : List AlertEntry} (h : AlertEntriesLaw es) :
    AlertEntriesLaw (latchInto k scan es) := by
  induction es with
  | nil => simp [latchInto, AlertEntriesLaw]
  | cons e es ih =>
    obtain ⟨hp, ho⟩ := h
    rw [List.pairwise_cons] at hp
    have htail : AlertEntriesLaw es := ⟨hp.2, fun x hx => ho x (List.mem_cons_of_mem _ hx)⟩
    have he := ho e List.mem_cons_self
    simp only [latchInto]
    split_ifs with h1 h2
    · refine ⟨List.pairwise_cons.2 ⟨hp.1, hp.2⟩, fun x hx => ?_⟩
      rcases List.mem_cons.1 hx with rfl | hx
      · simp only [Config.saturation]; omega
      · exact ho x (List.mem_cons_of_mem _ hx)
    · refine ⟨List.pairwise_cons.2 ⟨fun x hx => ?_, List.pairwise_cons.2 hp⟩, fun x hx => ?_⟩
      · rcases List.mem_cons.1 hx with rfl | hx
        · exact h2
        · exact h2.trans (hp.1 x hx)
      · rcases List.mem_cons.1 hx with rfl | hx
        · simp
        · exact ho x hx
    · refine ⟨List.pairwise_cons.2 ⟨fun x hx => ?_, (ih htail).1⟩, fun x hx => ?_⟩
      · rcases mem_latchInto_index hx with hk | ⟨y, hy, hxy⟩
        · have hne : e.key.index ≠ k.index := fun hi => h1 (AlertKey.index_injective hi)
          rw [hk]; omega
        · rw [← hxy]; exact hp.1 y hy
      · rcases List.mem_cons.1 hx with rfl | hx
        · exact he
        · exact (ih htail).2 x hx

theorem latchesInto_keeps_law (ks : List AlertKey) (scan : Word32) {es : List AlertEntry} (h : AlertEntriesLaw es) :
    AlertEntriesLaw (latchesInto ks scan es) := by
  induction ks generalizing es with
  | nil => exact h
  | cons k ks ih => exact ih (latchInto_keeps_law k scan h)

theorem latchesInto_ne_nil {ks : List AlertKey} {scan : Word32} {es : List AlertEntry} (h : ks ≠ [] ∨ es ≠ []) :
    latchesInto ks scan es ≠ [] := by
  induction ks generalizing es with
  | nil => simpa [latchesInto] using h
  | cons k ks ih => exact ih (.inr (latchInto_ne_nil k scan es))

/-- Latches keep the alert law. -/
theorem latched_keeps_alertLaw (ks : List AlertKey) {s : State} (h : AlertLaw s) : AlertLaw (latched ks s) := by
  by_cases hk : ks = []
  · subst hk; simpa using h
  · have hne : ks.isEmpty = false := by cases ks with
      | nil => exact absurd rfl hk
      | cons _ _ => rfl
    refine ⟨latchesInto_keeps_law ks _ h.entries, ?_, ?_⟩
    · simp [latched, hne, latchesInto_ne_nil (.inl hk)]
    · simp [latched, hne]

end Sys2Proof.Machine
end

