-- ==== Sys2Proof/Laws/Bytes.lean ====
section
/-! SUPPORT. Bytes: what big-endian quantities read back as (R192), and edit descriptors and items read back (R179, R194). -/

namespace Sys2Proof.Machine

theorem toNat_append_byte {m : Nat} (x : BitVec m) (b : Byte) : (x ++ b).toNat = x.toNat * 256 + b.toNat := by
  rw [BitVec.toNat_append, Nat.shiftLeft_eq, Nat.mul_comm, ← Nat.two_pow_add_eq_or_of_lt b.isLt]

theorem natOfBytes2_eq (b1 b0 : Byte) : natOfBytes2 b1 b0 = 256 * b1.toNat + b0.toNat := by
  unfold natOfBytes2
  rw [toNat_append_byte]
  omega

theorem intOfBytes4_bytes (v : Int) (hv : FourBytes v) :
    intOfBytes4 ((BitVec.ofInt 32 v).extractLsb' 24 8) ((BitVec.ofInt 32 v).extractLsb' 16 8)
      ((BitVec.ofInt 32 v).extractLsb' 8 8) ((BitVec.ofInt 32 v).extractLsb' 0 8) = v := by
  unfold intOfBytes4
  have : ((BitVec.ofInt 32 v).extractLsb' 24 8 ++ (BitVec.ofInt 32 v).extractLsb' 16 8 ++
      (BitVec.ofInt 32 v).extractLsb' 8 8 ++ (BitVec.ofInt 32 v).extractLsb' 0 8 : BitVec 32) = BitVec.ofInt 32 v := by
    apply BitVec.eq_of_toNat_eq
    rw [toNat_append_byte, toNat_append_byte, toNat_append_byte]
    simp only [BitVec.extractLsb'_toNat, Nat.shiftRight_eq_div_pow]
    have := (BitVec.ofInt 32 v).isLt
    omega
  rw [this, BitVec.toInt_ofInt]
  unfold FourBytes at hv
  simp [Int.bmod]; omega

@[simp] theorem length_bytes2 (w : Word16) : (bytes2 w).length = 2 := rfl
@[simp] theorem length_bytes4 (w : Word32) : (bytes4 w).length = 4 := rfl
@[simp] theorem length_bytesOfInt (v : Int) : (bytesOfInt v).length = 4 := rfl
@[simp] theorem length_bytes2OfNat (n : Nat) : (bytes2OfNat n).length = 2 := rfl

theorem toNat_byteOf {n : Nat} (h : n < 256) : (byteOf n).toNat = n := by
  simp only [byteOf, BitVec.toNat_ofNat]; omega

/-! ### Targets and fields -/

theorem Target.code_lt (t : Target) : t.code < 256 := by
  cases t <;> simp [Target.code] <;> omega

@[simp] theorem targetOfCode_code (t : Target) : targetOfCode t.code = some t := by
  cases t with
  | device => rfl
  | channel n => simp [targetOfCode, Target.code]; omega
  | slot i =>
    have := i.isLt
    rw [targetOfCode, dif_neg (by simp [Target.code]; omega)]
    simp [Target.code]
    omega

theorem targetOfCode_eq_some {c : Nat} {t : Target} : targetOfCode c = some t ↔ t.code = c := by
  refine ⟨fun h => ?_, fun h => by rw [← h, targetOfCode_code]⟩
  unfold targetOfCode at h
  split_ifs at h with h1 h2 h3 <;> cases h <;> simp [Target.code] <;> omega

theorem targetOfCode_eq_none {c : Nat} : targetOfCode c = none ↔ ∀ t : Target, t.code ≠ c := by
  refine ⟨fun h t ht => ?_, fun h => ?_⟩
  · rw [← ht, targetOfCode_code] at h; cases h
  · cases h' : targetOfCode c with
    | none => rfl
    | some t => exact absurd (targetOfCode_eq_some.1 h') (h t)

theorem FieldRef.id_lt (f : FieldRef) : f.id < 256 := by
  rcases f with f | ⟨n, f⟩ | ⟨i, f⟩ <;> cases f <;> (simp only [FieldRef.id]; decide)

theorem FieldRef.id_pos (f : FieldRef) : 0 < f.id := by
  rcases f with f | ⟨n, f⟩ | ⟨i, f⟩ <;> cases f <;> (simp only [FieldRef.id]; decide)

theorem fieldOfId_id (f : FieldRef) : fieldOfId f.target f.id = some f := by
  rcases f with f | ⟨n, f⟩ | ⟨i, f⟩ <;> cases f <;> rfl

theorem fieldOfId_eq_some {t : Target} {d : Nat} {f : FieldRef} : fieldOfId t d = some f ↔ f.target = t ∧ f.id = d := by
  refine ⟨fun h => ?_, fun ⟨h1, h2⟩ => by rw [← h1, ← h2, fieldOfId_id]⟩
  cases t <;> simp only [fieldOfId, Option.map_eq_some_iff] at h <;> obtain ⟨g, hg, rfl⟩ := h <;>
    · have := List.find?_some hg
      exact ⟨rfl, of_decide_eq_true this⟩

theorem fieldOfId_eq_none {t : Target} {d : Nat} :
    fieldOfId t d = none ↔ ∀ f : FieldRef, f.target = t → f.id ≠ d := by
  refine ⟨fun h f hf hd => ?_, fun h => ?_⟩
  · rw [fieldOfId_eq_some.2 ⟨hf, hd⟩] at h; cases h
  · cases h' : fieldOfId t d with
    | none => rfl
    | some f => exact absurd (fieldOfId_eq_some.1 h').2 (h f (fieldOfId_eq_some.1 h').1)

/-! ### Values in range -/

/-- Every value in a field's range fits the four bytes that carry it. -/
theorem fourBytes_of_inRange {f : FieldRef} {v : Int} (h : f.inRange v = true) : FourBytes v := by
  rcases f with f | ⟨n, f⟩ | ⟨i, f⟩ <;> cases f <;>
    simp [FieldRef.inRange, DeviceField.inRange, ChannelField.inRange, SlotField.inRange, within] at h <;>
    unfold FourBytes <;> omega

/-! ### Descriptors and items -/

/-- A request's descriptors read back, one after another. -/
theorem rawEdits_descriptors (es : List Edit) (rest : List Byte) (h : ∀ e ∈ es, FourBytes e.value) :
    rawEdits (es.flatMap Edit.descriptor ++ rest) =
      es.map (fun e => (⟨byteOf e.field.target.code, byteOf e.field.id, e.value⟩ : RawEdit)) ++ rawEdits rest := by
  induction es with
  | nil => rfl
  | cons e es ih =>
    have he := intOfBytes4_bytes e.value (h e List.mem_cons_self)
    have := ih fun x hx => h x (List.mem_cons_of_mem _ hx)
    simp only [List.flatMap_cons, Edit.descriptor, bytesOfInt, bytes4, List.cons_append, List.nil_append, rawEdits, he,
      List.map_cons, this]

theorem rawItems_bytes (items : List ConfigItem) (rest : List Byte) :
    rawItems (items.flatMap ConfigItem.bytes ++ rest) =
      items.map (fun i => match i with
        | .whole t => (byteOf t.code, 0)
        | .one f => (byteOf f.target.code, byteOf f.id)) ++ rawItems rest := by
  induction items with
  | nil => rfl
  | cons i items ih => cases i <;> simp [ConfigItem.bytes, rawItems, ih]

theorem channelOfByte_byteOf (n : Fin 16) : channelOfByte (byteOf n.val) = some n := by
  have := n.isLt
  simp only [channelOfByte, byteOf, BitVec.toNat_ofNat]
  rw [dif_pos (by omega)]
  congr 1
  ext
  simp only
  omega

end Sys2Proof.Machine
end

