-- ==== Sys2Proof/Laws/Config.lean ====
section
/-! SUPPORT. The configuration: one field read after another is written (R13, R20), the scan plan (R5), and the seal checks against
what each of them says (R13 to R17). -/

namespace Sys2Proof.Machine

/-! ### Reading after writing -/

theorem DeviceConfig.get_put_self {d : DeviceConfig} {f : DeviceField} {v : Int} (h : f.inRange v = true) :
    (d.put v f).get f = v := by
  cases f <;>
    simp only [DeviceField.inRange, within, Bool.and_eq_true, decide_eq_true_eq] at h <;>
    simp only [DeviceConfig.get, DeviceConfig.put] <;> first
      | omega
      | (obtain ⟨h1, h2⟩ := h; interval_cases v <;> rfl)

theorem DeviceConfig.get_put_ne {d : DeviceConfig} {f g : DeviceField} {v : Int} (h : f ≠ g) :
    (d.put v f).get g = d.get g := by
  cases f <;> cases g <;> first | rfl | exact absurd rfl h

theorem ChannelConfig.get_put_self {c : ChannelConfig} {f : ChannelField} {v : Int} (h : f.inRange v = true) :
    (c.put v f).get f = v := by
  cases f <;>
    simp only [ChannelField.inRange, within, Bool.and_eq_true, decide_eq_true_eq, List.mem_cons, List.not_mem_nil,
      or_false] at h <;>
    simp only [ChannelConfig.get, ChannelConfig.put] <;> first
      | omega
      | (obtain ⟨h1, h2⟩ := h; interval_cases v <;> rfl)

theorem ChannelConfig.get_put_ne {c : ChannelConfig} {f g : ChannelField} {v : Int} (h : f ≠ g) :
    (c.put v f).get g = c.get g := by
  cases f <;> cases g <;> first | rfl | exact absurd rfl h

theorem SlotConfig.get_put_self {c : SlotConfig} {f : SlotField} {v : Int} (h : f.inRange v = true) :
    (c.put v f).get f = v := by
  cases f <;>
    simp only [SlotField.inRange, within, Bool.and_eq_true, decide_eq_true_eq] at h <;>
    simp only [SlotConfig.get, SlotConfig.put] <;> first
      | omega
      | (obtain ⟨h1, h2⟩ := h; interval_cases v <;> rfl)

theorem SlotConfig.get_put_ne {c : SlotConfig} {f g : SlotField} {v : Int} (h : f ≠ g) :
    (c.put v f).get g = c.get g := by
  cases f <;> cases g <;> first | rfl | exact absurd rfl h

theorem Configuration.get_put_self {c : Configuration} {f : FieldRef} {v : Int} (h : f.inRange v = true) :
    (c.put v f).get f = v := by
  rcases f with f | ⟨n, f⟩ | ⟨i, f⟩
  · exact DeviceConfig.get_put_self h
  · simpa [Configuration.get, Configuration.put] using ChannelConfig.get_put_self h
  · simpa [Configuration.get, Configuration.put] using SlotConfig.get_put_self h

theorem Configuration.get_put_ne {c : Configuration} {f g : FieldRef} {v : Int} (h : f ≠ g) :
    (c.put v f).get g = c.get g := by
  rcases f with f | ⟨n, f⟩ | ⟨i, f⟩ <;> rcases g with g | ⟨m, g⟩ | ⟨j, g⟩ <;> try rfl
  · exact DeviceConfig.get_put_ne fun hf => h (by rw [hf])
  · by_cases hn : n = m
    · subst hn
      simpa [Configuration.get, Configuration.put] using ChannelConfig.get_put_ne fun hf => h (by rw [hf])
    · have : n.val ≠ m.val := fun hv => hn (Fin.ext hv)
      simp [Configuration.get, Configuration.put, this]
  · by_cases hn : i = j
    · subst hn
      simpa [Configuration.get, Configuration.put] using SlotConfig.get_put_ne fun hf => h (by rw [hf])
    · have : i.val ≠ j.val := fun hv => hn (Fin.ext hv)
      simp [Configuration.get, Configuration.put, this]

/-- An application keeps every field in its range where the edits' values are (R10). -/
theorem inRange_applyEdits {es : List Edit} {c : Configuration} (hc : InRange c)
    (he : ∀ e ∈ es, e.field.inRange e.value = true) : InRange (c.applyEdits es) := by
  induction es generalizing c with
  | nil => exact hc
  | cons e es ih =>
    refine ih (fun f => ?_) fun x hx => he x (List.mem_cons_of_mem _ hx)
    by_cases hf : e.field = f
    · subst hf
      rw [Configuration.get_put_self (he e List.mem_cons_self)]
      exact he e List.mem_cons_self
    · rw [Configuration.get_put_ne hf]; exact hc f

/-! ### The plan -/

theorem Configuration.length_plan (c : Configuration) : c.plan.length = min c.device.planLength 32 := by
  simp [Configuration.plan]

theorem Configuration.getElem_plan (c : Configuration) (i : Nat) (h : i < c.plan.length) :
    c.plan[i] = c.slots[i]'(by simp [Configuration.plan] at h; omega) := by
  simp [Configuration.plan]

theorem Configuration.any_plan (c : Configuration) (q : SlotConfig → Bool) :
    c.plan.any q = true ↔ ∃ i, c.InPlan i ∧ q c.slots[i] = true := by
  rw [List.any_eq_true]
  constructor
  · rintro ⟨x, hx, hq⟩
    obtain ⟨i, hi, rfl⟩ := List.getElem_of_mem hx
    rw [c.getElem_plan] at hq
    rw [c.length_plan] at hi
    exact ⟨⟨i, by omega⟩, by simp [Configuration.InPlan]; omega, hq⟩
  · rintro ⟨i, hi, hq⟩
    have hl : i.val < c.plan.length := by rw [c.length_plan]; unfold Configuration.InPlan at hi; omega
    exact ⟨c.plan[i.val], List.getElem_mem hl, by rw [c.getElem_plan]; exact hq⟩

theorem Configuration.plan_eq (c : Configuration) :
    c.plan = ((List.finRange 32).filter fun i => decide (i.val < c.device.planLength)).map fun i : Fin 32 => c.slots[i] := by
  have ht (k : Nat) : (List.finRange 32).take k = (List.finRange 32).filter fun i => decide (i.val < k) := by
    by_cases hk : k ≤ 32
    · interval_cases k <;> decide
    · rw [List.take_of_length_le (by simp; omega), List.filter_eq_self.2 fun i _ => by simp; omega]
  have hs : c.slots.toList = (List.finRange 32).map fun i : Fin 32 => c.slots[i] :=
    List.ext_getElem (by simp) fun i h1 h2 => by simp
  rw [Configuration.plan, hs, ← List.map_take, ht]

/-- The duration and the period the model reckons are those of R6 and R3. -/
theorem Configuration.duration_eq (c : Configuration) : c.duration = c.planTime := by
  rw [Configuration.duration, c.plan_eq, List.map_map]; rfl

theorem Configuration.period_eq (c : Configuration) : c.device.period = c.scanPeriod := rfl

theorem Configuration.level_eq (c : Configuration) (n : Fin 16) : c.device.level c.channels[n].exciteGroup = c.levelOf n := by
  unfold Configuration.levelOf; cases c.channels[n].exciteGroup <;> rfl

/-! ### The lowest number with a property -/

theorem lowestChannel_eq_some {p : Fin 16 → Bool} {i : Nat} :
    lowestChannel p = some i ↔ IsLowest (fun n => p n = true) i := by
  unfold lowestChannel IsLowest
  simp only [Option.map_eq_some_iff, List.find?_eq_some_iff_getElem]
  constructor
  · rintro ⟨n, ⟨hp, j, hj, hn, hlt⟩, rfl⟩
    refine ⟨n, rfl, hp, fun m hm => ?_⟩
    have hjn : j = n.val := by rw [← hn]; simp
    have := hlt m.val (by omega)
    simpa using this
  · rintro ⟨n, rfl, hp, hlt⟩
    refine ⟨n, ⟨hp, n.val, by simp, by simp, fun j hj => ?_⟩, rfl⟩
    have := hlt ⟨j, by omega⟩ hj
    simpa using this

theorem isLowest_congr {size : Nat} {p q : Fin size → Prop} (h : ∀ n, p n ↔ q n) {i : Nat} :
    IsLowest p i ↔ IsLowest q i := by
  unfold IsLowest; simp [h]

theorem exists_isLowest {size : Nat} {p : Fin size → Prop} (h : ∃ n, p n) : ∃ i, IsLowest p i := by
  classical
  obtain ⟨n, hn⟩ := h
  have hex : ∃ k, ∃ hk : k < size, p ⟨k, hk⟩ := ⟨n, n.isLt, hn⟩
  obtain ⟨hk, hp⟩ := Nat.find_spec hex
  exact ⟨Nat.find hex, ⟨Nat.find hex, hk⟩, rfl, hp, fun j hj hpj => Nat.find_min hex hj ⟨j.isLt, hpj⟩⟩

/-! ### The seal checks, each against its rule -/

theorem planChannelFault_iff (c : Configuration) (i : Nat) : planChannelFault c = some i ↔ c.FailsAt 2 i := by
  simp only [Configuration.FailsAt, false_and, or_false, true_and, planChannelFault, Nat.reduceEqDiff]
  rw [List.findIdx?_eq_some_iff_getElem]
  constructor
  · rintro ⟨hi, hp, hl⟩
    have hi' := hi
    rw [c.length_plan] at hi'
    refine ⟨⟨i, by omega⟩, rfl, ⟨by simp [Configuration.InPlan]; omega, ?_⟩, fun j hj hb => ?_⟩
    · rw [c.getElem_plan] at hp; simpa using hp
    · have := hl j.val hj
      rw [c.getElem_plan] at this
      have h2 := hb.2
      simp at this
      simp_all
  · rintro ⟨n, rfl, ⟨hin, hb⟩, hl⟩
    have hlen : n.val < c.plan.length := by rw [c.length_plan]; unfold Configuration.InPlan at hin; omega
    refine ⟨hlen, by rw [c.getElem_plan]; simpa using hb, fun j hj => ?_⟩
    have hj' : j < c.plan.length := by omega
    have hj2 := hj'
    rw [c.length_plan] at hj2
    have := hl ⟨j, by omega⟩ hj
    unfold Configuration.BadSlot Configuration.InPlan at this
    rw [c.getElem_plan]
    simp only [not_and] at this
    simpa using this (by omega)

theorem referenceCoverFault_iff (c : Configuration) (i : Nat) : referenceCoverFault c = some i ↔ c.FailsAt 3 i := by
  simp only [Configuration.FailsAt, false_and, or_false, true_and, Nat.reduceEqDiff, false_or]
  rw [referenceCoverFault, lowestChannel_eq_some]
  refine isLowest_congr fun n => ?_
  have : c.covered n = true ↔ ∃ i, c.InPlan i ∧ (c.slots[i].kind = .reference ∧ c.slots[i].channel = n) := by
    rw [Configuration.covered, c.any_plan]; simp
  simp only [Configuration.Uncovered, Bool.and_eq_true, decide_eq_true_eq, Bool.not_eq_true', and_assoc]
  rw [← Bool.not_eq_true, this]
  simp

theorem thresholdsFault_iff (c : Configuration) (i : Nat) : thresholdsFault c = some i ↔ c.FailsAt 4 i := by
  simp only [Configuration.FailsAt, false_and, or_false, true_and, Nat.reduceEqDiff, false_or]
  rw [thresholdsFault, lowestChannel_eq_some]
  refine isLowest_congr fun n => ?_
  simp [Configuration.BadThresholds, ChannelConfig.thresholdsOk, and_assoc]
  rfl

theorem fixedRangeFault_iff (c : Configuration) (i : Nat) : fixedRangeFault c = some i ↔ c.FailsAt 5 i := by
  simp only [Configuration.FailsAt, false_and, or_false, true_and, Nat.reduceEqDiff, false_or]
  rw [fixedRangeFault, lowestChannel_eq_some]
  refine isLowest_congr fun n => ?_
  cases h : c.channels[n].zeroMode <;> simp [Configuration.BadFixedOffset, ChannelConfig.fixedRangeOk] <;> simp_all

theorem excitationFault_iff (c : Configuration) (i : Nat) : excitationFault c = some i ↔ c.FailsAt 6 i := by
  simp only [Configuration.FailsAt, false_and, or_false, true_and, Nat.reduceEqDiff, false_or]
  rw [excitationFault, lowestChannel_eq_some]
  refine isLowest_congr fun n => ?_
  simp only [Configuration.Unexcited, Configuration.planned, Bool.and_eq_true, c.any_plan, decide_eq_true_eq, c.level_eq]

theorem durationFault_iff (c : Configuration) (i : Nat) : durationFault c = some i ↔ c.FailsAt 7 i := by
  simp only [Configuration.FailsAt, false_and, true_and, Nat.reduceEqDiff, false_or, durationFault, noIndex, c.duration_eq,
    c.period_eq]
  split_ifs <;> simp <;> omega

theorem Configuration.FailsAt.check {c : Configuration} {k i : Nat} (h : c.FailsAt k i) :
    k = 2 ∨ k = 3 ∨ k = 4 ∨ k = 5 ∨ k = 6 ∨ k = 7 := by
  unfold Configuration.FailsAt at h; omega

/-- The refusal of the consistency checks is that of the first check that fails. -/
theorem consistencyFault_of_first {c : Configuration} {k i : Nat} (h : c.FailsAt k i)
    (hl : ∀ j x, j < k → ¬ c.FailsAt j x) : consistencyFault c = some ⟨.inconsistent, k, i⟩ := by
  have none_of {o : Option Nat} {j : Nat} (ho : ∀ x, o = some x ↔ c.FailsAt j x) (hj : j < k) : o = none :=
    Option.eq_none_iff_forall_ne_some.2 fun x hx => hl j x hj ((ho x).1 hx)
  have n2 := none_of (planChannelFault_iff c)
  have n3 := none_of (referenceCoverFault_iff c)
  have n4 := none_of (thresholdsFault_iff c)
  have n5 := none_of (fixedRangeFault_iff c)
  have n6 := none_of (excitationFault_iff c)
  rcases h.check with rfl | rfl | rfl | rfl | rfl | rfl
  · simp [consistencyFault, (planChannelFault_iff c i).2 h]
  · simp [consistencyFault, n2, (referenceCoverFault_iff c i).2 h]
  · simp [consistencyFault, n2, n3, (thresholdsFault_iff c i).2 h]
  · simp [consistencyFault, n2, n3, n4, (fixedRangeFault_iff c i).2 h]
  · simp [consistencyFault, n2, n3, n4, n5, (excitationFault_iff c i).2 h]
  · simp [consistencyFault, n2, n3, n4, n5, n6, (durationFault_iff c i).2 h]

theorem passesChecks_iff (c : Configuration) : PassesChecks c ↔ ∀ k i, ¬ c.FailsAt k i := by
  constructor
  · intro h k i hf
    rcases hf with ⟨-, n, -, hp, -⟩ | ⟨-, n, -, hp, -⟩ | ⟨-, n, -, hp, -⟩ | ⟨-, n, -, hp, -⟩ | ⟨-, n, -, hp, -⟩ |
      ⟨-, -, hp⟩
    · exact h.planChannel n hp
    · exact h.referenceCover n hp
    · exact h.thresholds n hp
    · exact h.fixedRange n hp
    · exact h.excitation n hp
    · exact absurd h.duration (by omega)
  · intro h
    refine ⟨fun n hn => ?_, fun n hn => ?_, fun n hn => ?_, fun n hn => ?_, fun n hn => ?_, ?_⟩
    · obtain ⟨i, hi⟩ := exists_isLowest ⟨n, hn⟩; exact h 2 i (by simp [Configuration.FailsAt, hi])
    · obtain ⟨i, hi⟩ := exists_isLowest ⟨n, hn⟩; exact h 3 i (by simp [Configuration.FailsAt, hi])
    · obtain ⟨i, hi⟩ := exists_isLowest ⟨n, hn⟩; exact h 4 i (by simp [Configuration.FailsAt, hi])
    · obtain ⟨i, hi⟩ := exists_isLowest ⟨n, hn⟩; exact h 5 i (by simp [Configuration.FailsAt, hi])
    · obtain ⟨i, hi⟩ := exists_isLowest ⟨n, hn⟩; exact h 6 i (by simp [Configuration.FailsAt, hi])
    · by_contra hd; exact h 7 255 (by simp [Configuration.FailsAt]; omega)

/-- The consistency checks find no fault exactly in the configurations that pass them. -/
theorem consistencyFault_eq_none (c : Configuration) : consistencyFault c = none ↔ PassesChecks c := by
  rw [passesChecks_iff]
  constructor
  · intro h k i
    induction k using Nat.strong_induction_on generalizing i with
    | _ k ih =>
      intro hf
      rw [consistencyFault_of_first hf fun j x hj => ih j hj x] at h
      cases h
  · intro h
    have none_of {o : Option Nat} {j : Nat} (ho : ∀ x, o = some x ↔ c.FailsAt j x) : o = none :=
      Option.eq_none_iff_forall_ne_some.2 fun x hx => h j x ((ho x).1 hx)
    simp [consistencyFault, none_of (planChannelFault_iff c), none_of (referenceCoverFault_iff c),
      none_of (thresholdsFault_iff c), none_of (fixedRangeFault_iff c), none_of (excitationFault_iff c),
      none_of (durationFault_iff c)]

theorem sealStateFault_eq_none {r : RunState} {es : List Edit} :
    sealStateFault r es = none ↔ r = .standby ∨ ∀ e ∈ es, e.field.standbyOnly = false := by
  unfold sealStateFault
  split_ifs with h
  · simp [h]
  · rw [List.findIdx?_eq_none_iff]; simp [h]

/-- A SEAL is refused by none of its checks exactly where each of them passes (R13, R14). -/
theorem sealFault_eq_none {s : State} :
    s.sealFault = none ↔ s.store.staging ≠ [] ∧ s.store.batch = none ∧
      (s.engine.runState = .standby ∨ ∀ e ∈ s.store.staging, e.field.standbyOnly = false) ∧
      PassesChecks (s.store.live.applyEdits s.store.staging) := by
  rw [← consistencyFault_eq_none, ← sealStateFault_eq_none]
  unfold State.sealFault
  split_ifs with h1 h2
  · simp [h1]
  · simp [h2]
  · cases hs : sealStateFault s.engine.runState s.store.staging with
    | none => simp [h1, not_not.1 h2, ConfigStore.prospective]
    | some i => simp

/-! ### STAGE -/

/-- Edits checked on their own keep their fields' ranges (R10). -/
theorem checkEdit_ok {seq : Byte} {pos : Nat} {r : RawEdit} {e : Edit} (h : checkEdit seq pos r = .ok e) :
    e.field.inRange e.value = true := by
  unfold checkEdit at h
  split at h
  · cases h
  · split at h
    · cases h
    · split_ifs at h with hr
      · cases h; exact hr

theorem checkEdits_ok {seq : Byte} {pos : Nat} {rs : List RawEdit} {es : List Edit} (h : checkEdits seq pos rs = .ok es) :
    ∀ e ∈ es, e.field.inRange e.value = true := by
  induction rs generalizing pos es with
  | nil => cases h; simp
  | cons r rs ih =>
    simp only [checkEdits] at h
    split at h
    · cases h
    · next e he =>
      split at h
      · cases h
      · next es' hes =>
        cases h
        intro x hx
        rcases List.mem_cons.1 hx with rfl | hx
        · exact checkEdit_ok he
        · exact ih hes x hx

theorem editsLaw_placeEdit {staging : List Edit} {e : Edit} (h : EditsLaw staging) (he : e.field.inRange e.value = true) :
    EditsLaw (placeEdit staging e) := by
  constructor
  · rw [placeEdit, List.pairwise_append]
    refine ⟨h.distinct.sublist List.filter_sublist, List.pairwise_singleton _ _, fun a ha b hb => ?_⟩
    rw [List.mem_singleton.1 hb]
    simpa using (List.mem_filter.1 ha).2
  · intro x hx
    rcases List.mem_append.1 hx with hx | hx
    · exact h.checked x (List.mem_filter.1 hx).1
    · rw [List.mem_singleton.1 hx]; exact he

/-- The staging set that would result holds one edit a field, with values in range (R9, R11). -/
theorem editsLaw_placeEdits {staging es : List Edit} (h : EditsLaw staging) (he : ∀ e ∈ es, e.field.inRange e.value = true) :
    EditsLaw (placeEdits staging es) := by
  induction es generalizing staging with
  | nil => exact h
  | cons e es ih =>
    exact ih (editsLaw_placeEdit h (he e List.mem_cons_self)) fun x hx => he x (List.mem_cons_of_mem _ hx)

end Sys2Proof.Machine
end

