-- ==== Sys2Proof/Laws/Executor.lean ====
section
/-! SUPPORT. The request executor: when a request's own part runs (R156, R157, R168), and what an execution can do. -/

namespace Sys2Proof.Machine

/-! ### Kinds and lengths -/

@[simp] theorem RequestKind.ofCode_code (k : RequestKind) : RequestKind.ofCode k.code = some k := by
  cases k <;> decide

theorem RequestKind.ofCode_eq_some {b : Byte} {k : RequestKind} : RequestKind.ofCode b = some k ↔ b = k.code := by
  refine ⟨fun h => ?_, fun h => by rw [h, RequestKind.ofCode_code]⟩
  have := List.find?_some h
  simpa using (of_decide_eq_true this).symm

theorem RequestKind.mem_all (k : RequestKind) : k ∈ RequestKind.all := by cases k <;> decide

theorem RequestKind.ofCode_eq_none {b : Byte} : RequestKind.ofCode b = none ↔ ∀ k : RequestKind, b ≠ k.code := by
  refine ⟨fun h k hk => ?_, fun h => ?_⟩
  · rw [hk, RequestKind.ofCode_code] at h; cases h
  · cases h' : RequestKind.ofCode b with
    | none => rfl
    | some k => exact absurd (RequestKind.ofCode_eq_some.1 h') (h k)

theorem lengthOk_iff (k : RequestKind) (body : List Byte) : k.lengthOk body = true ↔ WellFormedBody k body := by
  cases k <;> simp only [RequestKind.lengthOk, WellFormedBody, decide_eq_true_eq, Bool.and_eq_true]
  case stage =>
    constructor
    · rintro ⟨⟨h1, h2⟩, h3⟩
      exact ⟨body.length / 6, by omega, by omega, by omega⟩
    · rintro ⟨j, h1, h2, h3⟩
      omega
  case readConfig =>
    constructor
    · rintro ⟨⟨h1, h2⟩, h3⟩
      exact ⟨body.length / 2, by omega, by omega, by omega⟩
    · rintro ⟨j, h1, h2, h3⟩
      omega
  case retrack =>
    constructor
    · rintro ⟨h1, h2⟩
      exact ⟨body.length - 1, by omega, by omega, by omega⟩
    · rintro ⟨j, h1, h2, h3⟩
      omega
  case ackAlerts =>
    cases body with
    | nil => simp
    | cons form keys =>
      simp only [ackAllForm, ackListForm, Bool.or_eq_true, Bool.and_eq_true, decide_eq_true_eq, List.cons.injEq,
        List.length_eq_zero_iff]
      constructor
      · rintro (⟨h, h'⟩ | ⟨⟨h1, h2⟩, h3⟩)
        · exact .inl ⟨of_decide_eq_true h, h'⟩
        · exact .inr ⟨keys, ⟨of_decide_eq_true h1, rfl⟩, h2, h3⟩
      · rintro (⟨h, h'⟩ | ⟨_, ⟨h1, rfl⟩, h2, h3⟩)
        · exact .inl ⟨decide_eq_true h, h'⟩
        · exact .inr ⟨⟨decide_eq_true h1, h2⟩, h3⟩

theorem sessionAllows_iff (k : RequestKind) (s : State) : s.sessionAllows k = true ↔ SessionAllows k s := by
  cases k <;> simp [State.sessionAllows, SessionAllows, RequestKind.takenWhileClosed]

@[simp] theorem sessionAllows_takeHead (k : RequestKind) (s : State) :
    s.takeHead.sessionAllows k = s.sessionAllows k := rfl

/-! ### Taking a frame -/

theorem executorReady_iff {s : State} :
    s.executorReady = true ↔ s.phase = .running ∧ s.link.replies.length < 2 ∧ s.link.resetTaken = false := by
  simp [State.executorReady, Config.holdingFrames, and_assoc]

theorem frameToTake_eq_some {s : State} {f : Frame} : s.frameToTake = some f ↔ Takes f s := by
  unfold State.frameToTake
  constructor
  · intro h
    split_ifs at h with hr
    obtain ⟨h1, h2, h3⟩ := executorReady_iff.1 hr
    exact ⟨h1, h, h2, h3⟩
  · intro h
    rw [if_pos (executorReady_iff.2 ⟨h.running, h.room, h.clear⟩), h.head]

theorem isDuplicate_eq_false {l : Link} {f : Frame} :
    l.isDuplicate f = false ↔ ∀ m, l.memory = some m → ¬ m.sameAs f := by
  unfold Link.isDuplicate
  cases l.memory with
  | none => simp
  | some m => simp [Remembered.sameAs, ← Bool.not_eq_true]

theorem takeHead_answer (f : Frame) (kind : Byte) (body : List Byte) (s : State) :
    s.takeHead.answer f kind body = answered f kind body s := rfl

/-- The own part of a request runs exactly as the common checks allow (R168). -/
theorem runRequest_eq (k : RequestKind) (own : Frame → State → State) (f : Frame) (s : State) :
    (SessionAllows k s → WellFormedBody k f.body → s.runRequest k own f = own f s) ∧
      (¬ SessionAllows k s → s.runRequest k own f = s.refuse k f ⟨.noSession, 0, noIndex⟩) ∧
        (SessionAllows k s → ¬ WellFormedBody k f.body → s.runRequest k own f = s.refuse k f ⟨.badLength, 0, noIndex⟩) := by
  rw [← sessionAllows_iff, ← lengthOk_iff]
  unfold State.runRequest
  cases s.sessionAllows k <;> cases k.lengthOk f.body <;> simp

theorem execute_of_executes {k : RequestKind} {own : Frame → State → State} {f : Frame} {s : State}
    (h : Executes f s) (hk : f.kind = k.code) : s.execute k own = s.takeHead.runRequest k own f := by
  unfold State.execute
  rw [frameToTake_eq_some.2 h.takes]
  simp [isDuplicate_eq_false.2 h.fresh, RequestKind.ofCode_eq_some.2 hk]

theorem execute_of_admits {k : RequestKind} {own : Frame → State → State} {f : Frame} {s : State}
    (h : Admits k f s) : s.execute k own = own f s.takeHead := by
  rw [execute_of_executes h.executes h.named]
  exact (runRequest_eq k own f s.takeHead).1 h.session h.length

/-- All that a request command can do: nothing, or take a frame of its kind and refuse it or run its own part. -/
theorem execute_cases (k : RequestKind) (own : Frame → State → State) (s : State) :
    s.execute k own = s ∨ ∃ f, Executes f s ∧ f.kind = k.code ∧
      ((Admits k f s ∧ s.execute k own = own f s.takeHead) ∨
        ∃ r : Rejection, r.status ≠ .ok ∧ s.execute k own = s.takeHead.refuse k f r) := by
  by_cases h : ∃ f, Executes f s ∧ f.kind = k.code
  · obtain ⟨f, hx, hk⟩ := h
    refine .inr ⟨f, hx, hk, ?_⟩
    rw [execute_of_executes hx hk]
    obtain ⟨h1, h2, h3⟩ := runRequest_eq k own f s.takeHead
    by_cases hs : SessionAllows k s
    · by_cases hl : WellFormedBody k f.body
      · exact .inl ⟨⟨hx, hk, hs, hl⟩, h1 hs hl⟩
      · exact .inr ⟨_, by decide, h3 hs hl⟩
    · exact .inr ⟨_, by decide, h2 hs⟩
  · left
    unfold State.execute
    cases hf : s.frameToTake with
    | none => rfl
    | some f =>
      refine if_neg fun hc => h ⟨f, ⟨frameToTake_eq_some.1 hf, isDuplicate_eq_false.1 hc.1⟩, ?_⟩
      exact RequestKind.ofCode_eq_some.1 hc.2

theorem executeUnknown_of_executes {f : Frame} {s : State} (h : Executes f s)
    (hk : ∀ k : RequestKind, f.kind ≠ k.code) : s.executeUnknown = answered f 0xFF [0x02, 0, 0xFF] s := by
  unfold State.executeUnknown
  rw [frameToTake_eq_some.2 h.takes]
  simp only [isDuplicate_eq_false.2 h.fresh, RequestKind.ofCode_eq_none.2 hk, and_self, if_true]
  rfl

theorem executeUnknown_cases (s : State) :
    s.executeUnknown = s ∨
      ∃ f, Executes f s ∧ (∀ k : RequestKind, f.kind ≠ k.code) ∧ s.executeUnknown = answered f 0xFF [0x02, 0, 0xFF] s := by
  by_cases h : ∃ f, Executes f s ∧ ∀ k : RequestKind, f.kind ≠ k.code
  · obtain ⟨f, hx, hk⟩ := h
    exact .inr ⟨f, hx, hk, executeUnknown_of_executes hx hk⟩
  · left
    unfold State.executeUnknown
    cases hf : s.frameToTake with
    | none => rfl
    | some f =>
      refine if_neg fun hc => h ⟨f, ⟨frameToTake_eq_some.1 hf, isDuplicate_eq_false.1 hc.1⟩, ?_⟩
      exact RequestKind.ofCode_eq_none.1 hc.2

/-- All that DUPLICATE can do (R157). -/
theorem answerDuplicate_cases (s : State) :
    s.answerDuplicate = s ∨
      ∃ f m, Takes f s ∧ s.link.memory = some m ∧ m.sameAs f ∧
        s.answerDuplicate =
          { s with
            link :=
              { s.link with
                holding := s.link.holding.tail
                replies := s.link.replies ++ [m.reply]
                counters := { s.link.counters with duplicates := s.link.counters.duplicates + 1 } } } := by
  unfold State.answerDuplicate
  cases hf : s.frameToTake with
  | none => exact .inl rfl
  | some f =>
    cases hm : s.link.memory with
    | none => exact .inl rfl
    | some m =>
      by_cases hd : s.link.isDuplicate f = true
      · refine .inr ⟨f, m, frameToTake_eq_some.1 hf, rfl, ?_, ?_⟩
        · simpa [Link.isDuplicate, hm, Remembered.sameAs, and_assoc] using hd
        · simp only [hd, if_true]
          rfl
      · exact .inl (by simp [hd])

end Sys2Proof.Machine
end

