-- ==== Sys2Proof/Laws/Tracker.lean ====
section
/-! SUPPORT. The offset tracker's operations: each against the terms of the claims (R73 to R75, R83), and the record law each keeps
(R69, R70). -/

namespace Sys2Proof.Machine

/-! ### Clamps, sums and estimates -/

theorem clampTo_eq_boundedBy (m : Nat) (v : Int) : clampTo m v = boundedBy m v := by
  unfold clampTo boundedBy; split_ifs <;> omega

theorem clampTo_ne_iff (m : Nat) (v : Int) : clampTo m v ≠ v ↔ m < v.natAbs := by
  unfold clampTo; split_ifs <;> omega

theorem natAbs_clampTo_le (m : Nat) (v : Int) : (clampTo m v).natAbs ≤ m := by
  unfold clampTo; split_ifs <;> omega

/-- A quotient of a sum by the number of its terms, or by any bound of them, stays in the terms' range (R55, R64, R72). -/
theorem tdiv_range {sum lo hi : Int} {k : Nat} (hk : 1 ≤ k) (h1 : lo * k ≤ sum) (h2 : sum ≤ hi * k) :
    lo ≤ sum.tdiv k ∧ sum.tdiv k ≤ hi := by
  have hk0 : (0 : Int) < k := by omega
  have h3 := Int.mul_tdiv_add_tmod sum k
  have h4 := Int.tmod_lt_of_pos sum hk0
  have h5 : -(k : Int) < sum.tmod k := Int.lt_tmod_of_pos _ hk0
  constructor
  · by_contra hc
    have : sum.tdiv k ≤ lo - 1 := by omega
    nlinarith
  · by_contra hc
    have : hi + 1 ≤ sum.tdiv k := by omega
    nlinarith

theorem sum_range {lo hi : Int} {vs : List Int} (h : ∀ v ∈ vs, lo ≤ v ∧ v ≤ hi) :
    lo * vs.length ≤ vs.sum ∧ vs.sum ≤ hi * vs.length := by
  induction vs with
  | nil => simp
  | cons v vs ih =>
    have := ih fun x hx => h x (List.mem_cons_of_mem _ hx)
    have := h v List.mem_cons_self
    simp only [List.sum_cons, List.length_cons, Nat.cast_add, Nat.cast_one, mul_add, mul_one]
    omega

/-- An estimate of a window of codes is in the codes' range (R68, R72). -/
theorem codeRange_estimate {window : List Int} (hw : window ≠ []) (h : ∀ v ∈ window, CodeRange v) :
    CodeRange (estimate window) := by
  have hl := List.length_pos_iff.2 hw
  have hlen : (((window.insertionSort (· ≤ ·)).drop (window.length / 4)).take
      (window.length - 2 * (window.length / 4))).length = window.length - 2 * (window.length / 4) := by
    simp; omega
  have := sum_range (lo := -8388607) (hi := 8388606)
    (vs := ((window.insertionSort (· ≤ ·)).drop (window.length / 4)).take (window.length - 2 * (window.length / 4)))
    fun v hv => h v (by simpa using List.mem_of_mem_drop (List.mem_of_mem_take hv))
  rw [hlen] at this
  exact tdiv_range (by omega) this.1 this.2

/-- A window that took values is nonempty, holds eight at most, and holds nothing but old values and new (R71). -/
theorem pushWindow_law {w vs : List Int} (hw : ∀ v ∈ w, CodeRange v) (hv : ∀ v ∈ vs, CodeRange v) (hn : vs ≠ []) :
    (pushWindow w vs).length ≤ 8 ∧ pushWindow w vs ≠ [] ∧ ∀ v ∈ pushWindow w vs, CodeRange v := by
  have := List.length_pos_iff.2 hn
  refine ⟨by simp [pushWindow, newest, Config.windowValues]; omega, ?_, fun v hv' => ?_⟩
  · rw [← List.length_pos_iff]; simp [pushWindow, newest, Config.windowValues]; omega
  · rcases List.mem_append.1 (List.mem_of_mem_drop hv') with h | h
    · exact hw v h
    · exact hv v h

/-! ### Updates and triggers -/

theorem followUp_eq (n : Nat) (t : Tracker) : t.followUp n = followedUp n t := by
  have hF : Config.followContinuous = 255 := rfl
  unfold Tracker.followUp followedUp
  rw [hF]
  split_ifs <;> simp_all

theorem direct_record (cfg : ChannelConfig) (est : Int) (t : Tracker) :
    (t.direct cfg est).record =
      followedUp cfg.followScans { t with appliedOffset := boundedBy cfg.maxCorrection est } := by
  simp only [Tracker.direct, followUp_eq, clampTo_eq_boundedBy]

theorem hardBreached_iff (cfg : ChannelConfig) (a b : Int) :
    hardBreached cfg (a - b).natAbs = true ↔ cfg.hardThreshold ≠ 65535 ∧ (cfg.hardThreshold : Int) < |a - b| := by
  rw [Int.abs_eq_natAbs]
  unfold hardBreached
  rw [show Config.thresholdOff = 65535 from rfl, Bool.and_eq_true, decide_eq_true_eq, decide_eq_true_eq]
  omega

theorem softBreached_iff (cfg : ChannelConfig) (a b : Int) :
    softBreached cfg (a - b).natAbs = true ↔ cfg.softThreshold ≠ 65535 ∧ (cfg.softThreshold : Int) < |a - b| := by
  rw [Int.abs_eq_natAbs]
  unfold softBreached
  rw [show Config.thresholdOff = 65535 from rfl, Bool.and_eq_true, decide_eq_true_eq, decide_eq_true_eq]
  omega

theorem hardTrigger_eq (kind : TriggerKind) (scan : Word32) (t : Tracker) :
    t.hardTrigger kind scan = hardTriggered kind scan t := rfl

/-- A change of follow_scans leaves all that a hard trigger keeps. -/
theorem followStep_hardTrigger (old new : ChannelConfig) (kind : TriggerKind) (scan : Word32) (t : Tracker) :
    (t.followStep old new).hardTrigger kind scan = t.hardTrigger kind scan := by
  obtain ⟨st, ao, w, r, le, lt, tc⟩ := t
  unfold Tracker.followStep
  cases st <;> simp only <;> split_ifs <;> rfl

theorem followStep_keeps (old new : ChannelConfig) (t : Tracker) :
    (t.followStep old new).appliedOffset = t.appliedOffset ∧ (t.followStep old new).lastEstimate = t.lastEstimate := by
  obtain ⟨st, ao, w, r, le, lt, tc⟩ := t
  unfold Tracker.followStep
  cases st <;> simp only <;> split_ifs <;> exact ⟨rfl, rfl⟩

/-! ### The record law -/

/-- What the store's laws say of one channel that the record law needs. -/
structure ChannelOk (c : ChannelConfig) : Prop where
  follow : c.followScans ≤ 255
  fixed : c.zeroMode = .fixed → c.fixedOffset.natAbs ≤ c.maxCorrection
  correction : c.maxCorrection ≤ 1048575

theorem channelOk {c : Configuration} (hr : InRange c) (hp : PassesChecks c) (n : Fin 16) : ChannelOk c.channels[n] := by
  refine ⟨?_, fun h => ?_, ?_⟩
  · have := hr (.channel n .followScans)
    simp [FieldRef.inRange, ChannelField.inRange, within, Configuration.get, ChannelConfig.get] at this
    exact this
  · have := hp.fixedRange n
    unfold Configuration.BadFixedOffset at this
    by_contra hc
    exact this ⟨h, by omega⟩
  · have := hr (.channel n .maxCorrection)
    simp [FieldRef.inRange, ChannelField.inRange, within, Configuration.get, ChannelConfig.get] at this
    exact this

theorem recordLaw_hardTrigger {cfg : ChannelConfig} {kind : TriggerKind} {scan : Word32} {t : Tracker}
    (h : RecordLaw cfg t) (hz : cfg.zeroMode = .track) : RecordLaw cfg (t.hardTrigger kind scan) :=
  ⟨⟨hz, rfl, rfl⟩, h.bounded, by simp [Tracker.hardTrigger], by simp [Tracker.hardTrigger], h.estimate⟩

theorem recordLaw_direct {cfg : ChannelConfig} {est : Int} {t : Tracker} (hc : ChannelOk cfg) (hz : cfg.zeroMode = .track)
    (hw : t.window ≠ []) (h8 : t.window.length ≤ 8) (hv : ∀ v ∈ t.window, CodeRange v)
    (he : ∀ v, t.lastEstimate = some v → CodeRange v) : RecordLaw cfg (t.direct cfg est).record := by
  have hF : Config.followContinuous = 255 := rfl
  have := hc.follow
  unfold Tracker.direct Tracker.followUp
  rw [hF]
  split_ifs <;> refine ⟨?_, natAbs_clampTo_le _ _, h8, hv, he⟩ <;> simp_all [TrackerStateLaw] <;> omega

/-- A MANUAL trigger keeps the record law (R86, R94). -/
theorem recordLaw_manualTrigger {effect : Response} {cfg : ChannelConfig} {scan : Word32} {t : Tracker}
    (hc : ChannelOk cfg) (h : RecordLaw cfg t) : RecordLaw cfg (manualTrigger effect cfg scan t).1 := by
  have := hc.follow
  unfold manualTrigger
  split_ifs with hz
  · exact h
  · have hz' : cfg.zeroMode = .track := by cases hh : cfg.zeroMode <;> simp_all
    cases effect
    · have hst := h.state
      obtain ⟨st, ao, w, r, le, lt, tc⟩ := t
      unfold TrackerStateLaw at hst
      have hw := h.window
      have hv := h.values
      have he := h.estimate
      have hb := h.bounded
      unfold Tracker.softTrigger Tracker.mark softFollow
      cases st <;> simp only [hz'] at hst ⊢ <;> (try split_ifs) <;> refine ⟨?_, hb, hw, hv, he⟩ <;>
        simp_all [TrackerStateLaw] <;> omega
    · exact recordLaw_hardTrigger h hz'

/-- The work of a completion keeps the record law (R76 to R81). -/
theorem recordLaw_complete {cfg : ChannelConfig} {scan : Word32} {vs : List Int} {t : Tracker} (hc : ChannelOk cfg)
    (h : RecordLaw cfg t) (hv : ∀ v ∈ vs, CodeRange v) : RecordLaw cfg (t.complete cfg scan vs).record := by
  unfold Tracker.complete
  split_ifs with hn
  · exact h
  obtain ⟨p8, pn, pv⟩ := pushWindow_law h.values hv hn
  have hest := codeRange_estimate pn pv
  obtain ⟨q8, qn, qv⟩ := pushWindow_law (w := []) (by simp) hv hn
  have hq : pushWindow [] vs = newest vs := rfl
  rw [hq] at q8 qn qv
  have qest := codeRange_estimate qn qv
  have hst := h.state
  unfold TrackerStateLaw at hst
  simp only
  have threshold (t1 : Tracker) (kind : TriggerKind) (hz : cfg.zeroMode = .track) :
      RecordLaw cfg (t1.thresholdHard cfg kind scan vs).record :=
    recordLaw_direct hc hz qn q8 qv (by intro v hv; cases hv; exact qest)
  split
  · exact h
  · next hs => rw [hs] at hst; exact recordLaw_direct hc hst.1 pn p8 pv (by intro v hv; cases hv; exact hest)
  · next hs =>
    rw [hs] at hst
    split_ifs
    · exact threshold _ _ hst.1
    · split
      · exact threshold _ _ hst.1
      · have := hst.2.2.2
        unfold Tracker.thresholdSoft Tracker.filtered Tracker.countDown softFollow Tracker.mark
        refine ⟨?_, natAbs_clampTo_le _ _, p8, pv, by intro v hv; cases hv; exact hest⟩
        unfold TrackerStateLaw
        simp only
        split_ifs <;> simp_all <;> omega
    · exact ⟨by unfold TrackerStateLaw; rw [hs]; exact ⟨hst.1, pn, hst.2.2⟩, h.bounded, p8, pv,
        by intro v hv; cases hv; exact hest⟩
  · next hs =>
    rw [hs] at hst
    split_ifs
    · exact threshold _ _ hst.1
    · unfold Tracker.filtered Tracker.countDown
      refine ⟨?_, natAbs_clampTo_le _ _, p8, pv, by intro v hv; cases hv; exact hest⟩
      unfold TrackerStateLaw
      simp only
      split_ifs <;> simp_all <;> omega
  · next hs =>
    rw [hs] at hst
    split_ifs
    · exact threshold _ _ hst.1
    · unfold Tracker.filtered
      refine ⟨?_, natAbs_clampTo_le _ _, p8, pv, by intro v hv; cases hv; exact hest⟩
      unfold TrackerStateLaw
      simp only
      rw [hs]
      exact ⟨hst.1, pn, hst.2.2⟩

/-- An application takes a record that agrees with the old configuration to one that agrees with the new (R89 to R92). -/
theorem recordLaw_applied {old new : ChannelConfig} {lv : Bool} {sc : Word32} {t : Tracker} (hc : ChannelOk new)
    (h : RecordLaw old t) : RecordLaw new (t.applied old new lv sc).record := by
  have hF : Config.followContinuous = 255 := rfl
  have hst := h.state
  have hfo := hc.follow
  have key : RecordLaw new (((t.modeStep old new).clampStep new).record.followStep old new) ∨
      (old.zeroMode = .fixed ∧ new.zeroMode = .track ∧
        (((t.modeStep old new).clampStep new).record.followStep old new).appliedOffset.natAbs ≤ new.maxCorrection ∧
          (((t.modeStep old new).clampStep new).record.followStep old new).lastEstimate = t.lastEstimate) := by
    cases ho : old.zeroMode <;> cases hn : new.zeroMode
    · left
      obtain ⟨st, ao, w, r, le, lt, tc⟩ := t
      have hoff : st = .off ∧ ao = old.fixedOffset ∧ w = [] ∧ r = 0 := by
        unfold TrackerStateLaw at hst
        cases st <;> simp [ho] at hst ⊢
        exact ⟨hst.2.2, hst.1, hst.2.1⟩
      obtain ⟨rfl, rfl, rfl, rfl⟩ := hoff
      have hb := hc.fixed hn
      simp only [Tracker.modeStep, ho, hn, Tracker.clampStep, Tracker.followStep]
      split_ifs with h1 <;> refine ⟨⟨hn, rfl, rfl, ?_⟩, ?_, by simp, by simp, h.estimate⟩ <;> simp_all
    · right
      refine ⟨rfl, rfl, ?_, ?_⟩
      · rw [(followStep_keeps _ _ _).1]
        simp only [Tracker.modeStep, ho, hn, Tracker.clampStep]
        exact natAbs_clampTo_le _ _
      · rw [(followStep_keeps _ _ _).2]
        simp only [Tracker.modeStep, ho, hn, Tracker.clampStep]
    · left
      have hb := hc.fixed hn
      simp only [Tracker.modeStep, ho, hn, Tracker.clampStep, Tracker.followStep]
      split_ifs <;> exact ⟨⟨hn, rfl, rfl, rfl⟩, hb, by simp, by simp, by simp⟩
    · left
      have hv := h.values
      have hw := h.window
      have he := h.estimate
      obtain ⟨st, ao, w, r, le, lt, tc⟩ := t
      unfold TrackerStateLaw at hst
      simp only at hv hw he
      cases st <;> simp only [ho] at hst <;>
        simp only [Tracker.modeStep, ho, hn, Tracker.clampStep, Tracker.followStep, hF] <;> (try split_ifs) <;>
        refine ⟨?_, natAbs_clampTo_le _ _, hw, hv, he⟩ <;> simp_all [TrackerStateLaw] <;> omega
  have hrec : (t.applied old new lv sc).record =
      match appliedTrigger old new lv with
      | some k => (((t.modeStep old new).clampStep new).record.followStep old new).hardTrigger k sc
      | none => ((t.modeStep old new).clampStep new).record.followStep old new := by
    unfold Tracker.applied
    cases appliedTrigger old new lv <;> rfl
  rw [hrec]
  rcases key with key | ⟨ho, hn, hb, hle⟩
  · split
    · next k hk =>
      refine recordLaw_hardTrigger key ?_
      unfold appliedTrigger at hk
      split_ifs at hk with h1 h2
      · exact h1.2
      · exact h2.2.1
    · exact key
  · have : appliedTrigger old new lv = some .mode := by unfold appliedTrigger; rw [if_pos ⟨ho, hn⟩]
    rw [this]
    exact ⟨⟨hn, rfl, rfl⟩, hb, by simp [Tracker.hardTrigger], by simp [Tracker.hardTrigger],
      fun v hv => h.estimate v (by rw [← hle]; exact hv)⟩

end Sys2Proof.Machine
end

