-- ==== Sys2Proof/Laws/FrontEnd.lean ====
section
/-! SUPPORT. The front end's operations: each against the terms of the claims (R51, R54 to R56, R62 to R65), and the ranges they keep. -/

namespace Sys2Proof.Machine

theorem beginSlot_eq {c : Configuration} {i : Fin 32} {endsAt k : Nat} (hk : k = i.val) :
    beginSlot c k c.slots[i] endsAt = slotBegun c i endsAt := by
  subst hk
  simp only [beginSlot, slotBegun, SlotInFlight.enterCount]
  split_ifs <;> rfl

theorem append_eq_withReading (kind : SlotKind) (n : Fin 16) (r : Reading) (f : FrontEnd) :
    f.append kind n r = withReading kind n r f := by
  have set_eq (v : Vector (List Reading) 16) :
      v.set n (v[n] ++ [r]) = .ofFn fun m : Fin 16 => if m = n then v[m] ++ [r] else v[m] := by
    ext m hm : 1
    simp only [Vector.getElem_set, Vector.getElem_ofFn, Fin.ext_iff]
    by_cases h : n.val = m
    · subst h; simp
    · simp [h, Ne.symm h]
  have same (v : Vector (List Reading) 16) : v = .ofFn fun m : Fin 16 => v[m] := by
    ext m hm : 1; simp
  cases kind <;>
    simp only [FrontEnd.append, withReading, true_and, reduceCtorEq, false_and, if_false, set_eq] <;>
    congr 1 <;> exact same _

theorem counted_eq_afterCounted (driver : DriverState) (senseGood : Bool) (code : Int) (sl : SlotInFlight) :
    sl.counted (conversionStatus driver senseGood code) code = afterCounted driver senseGood code sl := by
  unfold conversionStatus afterCounted
  rw [show Config.codeMin = -8388608 from rfl, show Config.codeMax = 8388607 from rfl]
  split_ifs <;> rfl

theorem reading_eq_readingOf (sl : SlotInFlight) : sl.reading = readingOf sl := rfl

@[simp] theorem readingOf_left (sl : SlotInFlight) (n : Nat) : readingOf { sl with left := n } = readingOf sl := rfl

/-- The plan's entry at a number that stands in it, and none beyond (R5, R39). -/
theorem plan_getElem?_eq {c : Configuration} {i : Fin 32} (h : i.val < c.device.planLength) :
    c.plan[i.val]? = some c.slots[i] := by
  simp [Configuration.plan, h]

theorem plan_getElem?_eq_none {c : Configuration} {k : Nat} (h : c.device.planLength ≤ k ∨ 32 ≤ k) : c.plan[k]? = none := by
  rw [List.getElem?_eq_none]
  simp [Configuration.plan]
  omega

/-- A conversion that is VALID has a code short of both limits (R51). -/
theorem codeRange_of_valid {driver : DriverState} {senseGood : Bool} {code : BitVec 24}
    (h : conversionStatus driver senseGood code.toInt = .valid) : CodeRange code.toInt := by
  have h1 := BitVec.toInt_lt (x := code)
  have h2 := BitVec.le_toInt (x := code)
  unfold conversionStatus at h
  rw [show Config.codeMin = -8388608 from rfl, show Config.codeMax = 8388607 from rfl] at h
  unfold CodeRange
  split_ifs at h with h3 h4
  simp at h1 h2
  omega

/-- A counted conversion keeps the bounds of the running sum (R54). -/
theorem afterCounted_sum {driver : DriverState} {senseGood : Bool} {code : BitVec 24} {sl : SlotInFlight} {k : Nat}
    (h1 : -8388607 * (k : Int) ≤ sl.sum) (h2 : sl.sum ≤ 8388606 * (k : Int)) :
    -8388607 * ((k + 1 : Nat) : Int) ≤ (afterCounted driver senseGood code.toInt sl).sum ∧
      (afterCounted driver senseGood code.toInt sl).sum ≤ 8388606 * ((k + 1 : Nat) : Int) := by
  unfold afterCounted
  split_ifs with h3 h4
  · simp only; omega
  · simp only; omega
  · have : CodeRange code.toInt := by
      apply codeRange_of_valid (driver := driver) (senseGood := senseGood)
      unfold conversionStatus
      rw [show Config.codeMin = -8388608 from rfl, show Config.codeMax = 8388607 from rfl, if_neg h3, if_neg h4]
    unfold CodeRange at this
    simp only
    omega

/-- A valid reading's value is in the codes' range (R55). -/
theorem codeRange_readingOf {sl : SlotInFlight} {v : Int} (ho : 1 ≤ sl.oversample)
    (h1 : -8388607 * (sl.oversample : Int) ≤ sl.sum) (h2 : sl.sum ≤ 8388606 * (sl.oversample : Int))
    (hv : (readingOf sl).outcome = .valid v) : CodeRange v := by
  unfold readingOf at hv
  simp only at hv
  split_ifs at hv
  cases hv
  exact tdiv_range ho h1 h2

/-! ### Results -/

theorem clampValue_eq_boundedBy (v : Int) : clampValue v = boundedBy 8388607 v := by
  unfold clampValue boundedBy Config.valueLimit; split_ifs <;> omega

theorem clampValue_ne_iff (v : Int) : clampValue v ≠ v ↔ 8388607 < |v| := by
  unfold clampValue Config.valueLimit; rw [Int.abs_eq_natAbs]; split_ifs <;> omega

theorem valueRange_clampValue (v : Int) : ValueRange (clampValue v) := by
  unfold ValueRange clampValue Config.valueLimit; split_ifs <;> omega

theorem codeRange_rawMean {values : List Int} (hn : values ≠ []) (h : ∀ v ∈ values, CodeRange v) :
    CodeRange (rawMean values) := by
  have := sum_range h
  exact tdiv_range (List.length_pos_iff.2 hn) this.1 this.2

/-- A record that a completion writes holds the ranges of R62. -/
theorem resultLaw_channelResult {cfg : ChannelConfig} {scan : Word32} {epoch : Word16} {offset : Int}
    {measure reference : List Reading} (hm : ∀ v ∈ validValues measure, CodeRange v)
    (ho : -1048575 ≤ offset ∧ offset ≤ 1048575) (hl : measure.length + reference.length ≤ 32) :
    ResultLaw (channelResult cfg scan epoch offset measure reference) := by
  have len (rs : List Reading) : (validValues rs).length ≤ rs.length := List.length_filterMap_le _ _
  refine ⟨fun m hm' => ?_, ?_, ho, ?_⟩
  · simp only [channelResult] at hm'
    split_ifs at hm' with hn
    cases hm'
    exact ⟨codeRange_rawMean (by simpa using hn) hm, valueRange_clampValue _, valueRange_clampValue _⟩
  · simp only [channelResult]
    split_ifs with hn <;> simp_all
  · have h1 := len measure
    have h2 := len reference
    simp only [channelResult]
    omega

end Sys2Proof.Machine
end

