-- ==== Sys2Proof/Laws/Ops.lean ====
section
/-! SUPPORT. The shared operations, each with what it leaves alone and what it sets, so that no proof unfolds one: a batch applied and
a boundary (R20), scan start (R36), entry into STANDBY (R44) and SETTLING (R46), arrivals (R118), the arbiter (R159), a scan
completion (R40) and a reset (R184). -/

namespace Sys2Proof.Machine

/-! ### Applying a batch -/

/-- All that an application does: it writes the store's configuration and epoch, the qualifier and the tracker records, and
makes latches. -/
theorem applyBatch_eq_latched (b : Batch) (s : State) :
    s.applyBatch b =
      latched (clampKeys (trackerApplied s.store.live (s.store.live.applyEdits b.edits) s.engine.scanCounter s.trackers))
        { s with
          store := { s.store with live := s.store.live.applyEdits b.edits, epoch := b.epoch, batch := none }
          engine :=
            { s.engine with
              qualifier :=
                s.engine.qualifier.applied s.store.live.device (s.store.live.applyEdits b.edits).device }
          trackers := .ofFn fun n =>
            (trackerApplied s.store.live (s.store.live.applyEdits b.edits) s.engine.scanCounter s.trackers n).record } := by
  rw [State.applyBatch, latchAll_eq_latched]

@[simp] theorem applyBatch_pending (b : Batch) (s : State) : (s.applyBatch b).pending = s.pending := by rw [applyBatch_eq_latched]; rfl
@[simp] theorem applyBatch_now (b : Batch) (s : State) : (s.applyBatch b).now = s.now := by rw [applyBatch_eq_latched]; rfl
@[simp] theorem applyBatch_phase (b : Batch) (s : State) : (s.applyBatch b).phase = s.phase := by rw [applyBatch_eq_latched]; rfl
@[simp] theorem applyBatch_session (b : Batch) (s : State) : (s.applyBatch b).session = s.session := by rw [applyBatch_eq_latched]; rfl
@[simp] theorem applyBatch_frontEnd (b : Batch) (s : State) : (s.applyBatch b).frontEnd = s.frontEnd := by rw [applyBatch_eq_latched]; rfl
@[simp] theorem applyBatch_drivers (b : Batch) (s : State) : (s.applyBatch b).drivers = s.drivers := by rw [applyBatch_eq_latched]; rfl
@[simp] theorem applyBatch_subs (b : Batch) (s : State) : (s.applyBatch b).subs = s.subs := by rw [applyBatch_eq_latched]; rfl
@[simp] theorem applyBatch_report (b : Batch) (s : State) : (s.applyBatch b).report = s.report := by rw [applyBatch_eq_latched]; rfl
@[simp] theorem applyBatch_engine_runState (b : Batch) (s : State) : (s.applyBatch b).engine.runState = s.engine.runState := by rw [applyBatch_eq_latched]; rfl
@[simp] theorem applyBatch_engine_mode (b : Batch) (s : State) : (s.applyBatch b).engine.mode = s.engine.mode := by rw [applyBatch_eq_latched]; rfl
@[simp] theorem applyBatch_engine_scanLimit (b : Batch) (s : State) : (s.applyBatch b).engine.scanLimit = s.engine.scanLimit := by rw [applyBatch_eq_latched]; rfl
@[simp] theorem applyBatch_engine_scansSinceStart (b : Batch) (s : State) : (s.applyBatch b).engine.scansSinceStart = s.engine.scansSinceStart := by rw [applyBatch_eq_latched]; rfl
@[simp] theorem applyBatch_engine_scanCounter (b : Batch) (s : State) : (s.applyBatch b).engine.scanCounter = s.engine.scanCounter := by rw [applyBatch_eq_latched]; rfl
@[simp] theorem applyBatch_engine_timer (b : Batch) (s : State) : (s.applyBatch b).engine.timer = s.engine.timer := by rw [applyBatch_eq_latched]; rfl
@[simp] theorem applyBatch_engine_settle (b : Batch) (s : State) : (s.applyBatch b).engine.settle = s.engine.settle := by rw [applyBatch_eq_latched]; rfl
@[simp] theorem applyBatch_engine_snapshot (b : Batch) (s : State) : (s.applyBatch b).engine.snapshot = s.engine.snapshot := by rw [applyBatch_eq_latched]; rfl
@[simp] theorem applyBatch_engine_scanEpoch (b : Batch) (s : State) : (s.applyBatch b).engine.scanEpoch = s.engine.scanEpoch := by rw [applyBatch_eq_latched]; rfl
@[simp] theorem applyBatch_engine_counters (b : Batch) (s : State) : (s.applyBatch b).engine.counters = s.engine.counters := by rw [applyBatch_eq_latched]; rfl
@[simp] theorem applyBatch_engine_sync (b : Batch) (s : State) : (s.applyBatch b).engine.sync = s.engine.sync := by rw [applyBatch_eq_latched]; rfl
@[simp] theorem applyBatch_link_rxState (b : Batch) (s : State) : (s.applyBatch b).link.rxState = s.link.rxState := by rw [applyBatch_eq_latched]; rfl
@[simp] theorem applyBatch_link_rxFrame (b : Batch) (s : State) : (s.applyBatch b).link.rxFrame = s.link.rxFrame := by rw [applyBatch_eq_latched]; rfl
@[simp] theorem applyBatch_link_rxdLow (b : Batch) (s : State) : (s.applyBatch b).link.rxdLow = s.link.rxdLow := by rw [applyBatch_eq_latched]; rfl
@[simp] theorem applyBatch_link_startBit (b : Batch) (s : State) : (s.applyBatch b).link.startBit = s.link.startBit := by rw [applyBatch_eq_latched]; rfl
@[simp] theorem applyBatch_link_holding (b : Batch) (s : State) : (s.applyBatch b).link.holding = s.link.holding := by rw [applyBatch_eq_latched]; rfl
@[simp] theorem applyBatch_link_memory (b : Batch) (s : State) : (s.applyBatch b).link.memory = s.link.memory := by rw [applyBatch_eq_latched]; rfl
@[simp] theorem applyBatch_link_replies (b : Batch) (s : State) : (s.applyBatch b).link.replies = s.link.replies := by rw [applyBatch_eq_latched]; rfl
@[simp] theorem applyBatch_link_transmitter (b : Batch) (s : State) : (s.applyBatch b).link.transmitter = s.link.transmitter := by rw [applyBatch_eq_latched]; rfl
@[simp] theorem applyBatch_link_readyNotice (b : Batch) (s : State) : (s.applyBatch b).link.readyNotice = s.link.readyNotice := by rw [applyBatch_eq_latched]; rfl
@[simp] theorem applyBatch_link_noticeSeq (b : Batch) (s : State) : (s.applyBatch b).link.noticeSeq = s.link.noticeSeq := by rw [applyBatch_eq_latched]; rfl
@[simp] theorem applyBatch_link_resetCause (b : Batch) (s : State) : (s.applyBatch b).link.resetCause = s.link.resetCause := by rw [applyBatch_eq_latched]; rfl
@[simp] theorem applyBatch_link_resetTaken (b : Batch) (s : State) : (s.applyBatch b).link.resetTaken = s.link.resetTaken := by rw [applyBatch_eq_latched]; rfl
@[simp] theorem applyBatch_link_rate (b : Batch) (s : State) : (s.applyBatch b).link.rate = s.link.rate := by rw [applyBatch_eq_latched]; rfl
@[simp] theorem applyBatch_link_counters (b : Batch) (s : State) : (s.applyBatch b).link.counters = s.link.counters := by rw [applyBatch_eq_latched]; rfl
@[simp] theorem applyBatch_store (b : Batch) (s : State) : (s.applyBatch b).store =
    { s.store with live := s.store.live.applyEdits b.edits, epoch := b.epoch, batch := none } := by
  rw [applyBatch_eq_latched]; rfl

theorem applyBatch_tracker (b : Batch) (s : State) (n : Fin 16) : (s.applyBatch b).trackers[n] =
    (s.trackers[n].applied s.store.live.channels[n] (s.store.live.applyEdits b.edits).channels[n]
      (levelChanged s.store.live (s.store.live.applyEdits b.edits) n) s.engine.scanCounter).record := by
  rw [applyBatch_eq_latched]; simp [trackerApplied]

/-! ### A boundary -/

/-- A boundary applies the batch that waits, or does nothing. -/
theorem boundary_cases (s : State) :
    s.store.batch = none ∧ s.boundary = s ∨ ∃ b, s.store.batch = some b ∧ s.boundary = s.applyBatch b := by
  unfold State.boundary
  cases s.store.batch <;> simp

@[simp] theorem boundary_pending (s : State) : (s.boundary).pending = s.pending := by rcases boundary_cases s with ⟨-, h⟩ | ⟨b, -, h⟩ <;> simp [h]
@[simp] theorem boundary_now (s : State) : (s.boundary).now = s.now := by rcases boundary_cases s with ⟨-, h⟩ | ⟨b, -, h⟩ <;> simp [h]
@[simp] theorem boundary_phase (s : State) : (s.boundary).phase = s.phase := by rcases boundary_cases s with ⟨-, h⟩ | ⟨b, -, h⟩ <;> simp [h]
@[simp] theorem boundary_session (s : State) : (s.boundary).session = s.session := by rcases boundary_cases s with ⟨-, h⟩ | ⟨b, -, h⟩ <;> simp [h]
@[simp] theorem boundary_frontEnd (s : State) : (s.boundary).frontEnd = s.frontEnd := by rcases boundary_cases s with ⟨-, h⟩ | ⟨b, -, h⟩ <;> simp [h]
@[simp] theorem boundary_drivers (s : State) : (s.boundary).drivers = s.drivers := by rcases boundary_cases s with ⟨-, h⟩ | ⟨b, -, h⟩ <;> simp [h]
@[simp] theorem boundary_subs (s : State) : (s.boundary).subs = s.subs := by rcases boundary_cases s with ⟨-, h⟩ | ⟨b, -, h⟩ <;> simp [h]
@[simp] theorem boundary_report (s : State) : (s.boundary).report = s.report := by rcases boundary_cases s with ⟨-, h⟩ | ⟨b, -, h⟩ <;> simp [h]
@[simp] theorem boundary_store_staging (s : State) : (s.boundary).store.staging = s.store.staging := by rcases boundary_cases s with ⟨-, h⟩ | ⟨b, -, h⟩ <;> simp [h]
@[simp] theorem boundary_engine_runState (s : State) : (s.boundary).engine.runState = s.engine.runState := by rcases boundary_cases s with ⟨-, h⟩ | ⟨b, -, h⟩ <;> simp [h]
@[simp] theorem boundary_engine_mode (s : State) : (s.boundary).engine.mode = s.engine.mode := by rcases boundary_cases s with ⟨-, h⟩ | ⟨b, -, h⟩ <;> simp [h]
@[simp] theorem boundary_engine_scanLimit (s : State) : (s.boundary).engine.scanLimit = s.engine.scanLimit := by rcases boundary_cases s with ⟨-, h⟩ | ⟨b, -, h⟩ <;> simp [h]
@[simp] theorem boundary_engine_scansSinceStart (s : State) : (s.boundary).engine.scansSinceStart = s.engine.scansSinceStart := by rcases boundary_cases s with ⟨-, h⟩ | ⟨b, -, h⟩ <;> simp [h]
@[simp] theorem boundary_engine_scanCounter (s : State) : (s.boundary).engine.scanCounter = s.engine.scanCounter := by rcases boundary_cases s with ⟨-, h⟩ | ⟨b, -, h⟩ <;> simp [h]
@[simp] theorem boundary_engine_timer (s : State) : (s.boundary).engine.timer = s.engine.timer := by rcases boundary_cases s with ⟨-, h⟩ | ⟨b, -, h⟩ <;> simp [h]
@[simp] theorem boundary_engine_settle (s : State) : (s.boundary).engine.settle = s.engine.settle := by rcases boundary_cases s with ⟨-, h⟩ | ⟨b, -, h⟩ <;> simp [h]
@[simp] theorem boundary_engine_snapshot (s : State) : (s.boundary).engine.snapshot = s.engine.snapshot := by rcases boundary_cases s with ⟨-, h⟩ | ⟨b, -, h⟩ <;> simp [h]
@[simp] theorem boundary_engine_scanEpoch (s : State) : (s.boundary).engine.scanEpoch = s.engine.scanEpoch := by rcases boundary_cases s with ⟨-, h⟩ | ⟨b, -, h⟩ <;> simp [h]
@[simp] theorem boundary_engine_counters (s : State) : (s.boundary).engine.counters = s.engine.counters := by rcases boundary_cases s with ⟨-, h⟩ | ⟨b, -, h⟩ <;> simp [h]
@[simp] theorem boundary_engine_sync (s : State) : (s.boundary).engine.sync = s.engine.sync := by rcases boundary_cases s with ⟨-, h⟩ | ⟨b, -, h⟩ <;> simp [h]
@[simp] theorem boundary_link_rxState (s : State) : (s.boundary).link.rxState = s.link.rxState := by rcases boundary_cases s with ⟨-, h⟩ | ⟨b, -, h⟩ <;> simp [h]
@[simp] theorem boundary_link_rxFrame (s : State) : (s.boundary).link.rxFrame = s.link.rxFrame := by rcases boundary_cases s with ⟨-, h⟩ | ⟨b, -, h⟩ <;> simp [h]
@[simp] theorem boundary_link_rxdLow (s : State) : (s.boundary).link.rxdLow = s.link.rxdLow := by rcases boundary_cases s with ⟨-, h⟩ | ⟨b, -, h⟩ <;> simp [h]
@[simp] theorem boundary_link_startBit (s : State) : (s.boundary).link.startBit = s.link.startBit := by rcases boundary_cases s with ⟨-, h⟩ | ⟨b, -, h⟩ <;> simp [h]
@[simp] theorem boundary_link_holding (s : State) : (s.boundary).link.holding = s.link.holding := by rcases boundary_cases s with ⟨-, h⟩ | ⟨b, -, h⟩ <;> simp [h]
@[simp] theorem boundary_link_memory (s : State) : (s.boundary).link.memory = s.link.memory := by rcases boundary_cases s with ⟨-, h⟩ | ⟨b, -, h⟩ <;> simp [h]
@[simp] theorem boundary_link_replies (s : State) : (s.boundary).link.replies = s.link.replies := by rcases boundary_cases s with ⟨-, h⟩ | ⟨b, -, h⟩ <;> simp [h]
@[simp] theorem boundary_link_transmitter (s : State) : (s.boundary).link.transmitter = s.link.transmitter := by rcases boundary_cases s with ⟨-, h⟩ | ⟨b, -, h⟩ <;> simp [h]
@[simp] theorem boundary_link_readyNotice (s : State) : (s.boundary).link.readyNotice = s.link.readyNotice := by rcases boundary_cases s with ⟨-, h⟩ | ⟨b, -, h⟩ <;> simp [h]
@[simp] theorem boundary_link_noticeSeq (s : State) : (s.boundary).link.noticeSeq = s.link.noticeSeq := by rcases boundary_cases s with ⟨-, h⟩ | ⟨b, -, h⟩ <;> simp [h]
@[simp] theorem boundary_link_resetCause (s : State) : (s.boundary).link.resetCause = s.link.resetCause := by rcases boundary_cases s with ⟨-, h⟩ | ⟨b, -, h⟩ <;> simp [h]
@[simp] theorem boundary_link_resetTaken (s : State) : (s.boundary).link.resetTaken = s.link.resetTaken := by rcases boundary_cases s with ⟨-, h⟩ | ⟨b, -, h⟩ <;> simp [h]
@[simp] theorem boundary_link_rate (s : State) : (s.boundary).link.rate = s.link.rate := by rcases boundary_cases s with ⟨-, h⟩ | ⟨b, -, h⟩ <;> simp [h]
@[simp] theorem boundary_link_counters (s : State) : (s.boundary).link.counters = s.link.counters := by rcases boundary_cases s with ⟨-, h⟩ | ⟨b, -, h⟩ <;> simp [h]
@[simp] theorem boundary_store_batch (s : State) : s.boundary.store.batch = none := by
  rcases boundary_cases s with ⟨h', h⟩ | ⟨b, -, h⟩ <;> simp [h]
  exact h'

/-! ### Entry into STANDBY -/

@[simp] theorem enterStandby_pending (s : State) : (s.enterStandby).pending = s.pending := by simp [State.enterStandby, State.restEngine, State.setRunState, State.driversRest, State.leaveWakeListen]
@[simp] theorem enterStandby_now (s : State) : (s.enterStandby).now = s.now := by simp [State.enterStandby, State.restEngine, State.setRunState, State.driversRest, State.leaveWakeListen]
@[simp] theorem enterStandby_phase (s : State) : (s.enterStandby).phase = s.phase := by simp [State.enterStandby, State.restEngine, State.setRunState, State.driversRest, State.leaveWakeListen]
@[simp] theorem enterStandby_session (s : State) : (s.enterStandby).session = s.session := by simp [State.enterStandby, State.restEngine, State.setRunState, State.driversRest, State.leaveWakeListen]
@[simp] theorem enterStandby_frontEnd (s : State) : (s.enterStandby).frontEnd = s.frontEnd := by simp [State.enterStandby, State.restEngine, State.setRunState, State.driversRest, State.leaveWakeListen]
@[simp] theorem enterStandby_subs (s : State) : (s.enterStandby).subs = s.subs := by simp [State.enterStandby, State.restEngine, State.setRunState, State.driversRest, State.leaveWakeListen]
@[simp] theorem enterStandby_report (s : State) : (s.enterStandby).report = s.report := by simp [State.enterStandby, State.restEngine, State.setRunState, State.driversRest, State.leaveWakeListen]
@[simp] theorem enterStandby_store_staging (s : State) : (s.enterStandby).store.staging = s.store.staging := by simp [State.enterStandby, State.restEngine, State.setRunState, State.driversRest, State.leaveWakeListen]
@[simp] theorem enterStandby_engine_mode (s : State) : (s.enterStandby).engine.mode = s.engine.mode := by simp [State.enterStandby, State.restEngine, State.setRunState, State.driversRest, State.leaveWakeListen]
@[simp] theorem enterStandby_engine_scanLimit (s : State) : (s.enterStandby).engine.scanLimit = s.engine.scanLimit := by simp [State.enterStandby, State.restEngine, State.setRunState, State.driversRest, State.leaveWakeListen]
@[simp] theorem enterStandby_engine_scansSinceStart (s : State) : (s.enterStandby).engine.scansSinceStart = s.engine.scansSinceStart := by simp [State.enterStandby, State.restEngine, State.setRunState, State.driversRest, State.leaveWakeListen]
@[simp] theorem enterStandby_engine_scanCounter (s : State) : (s.enterStandby).engine.scanCounter = s.engine.scanCounter := by simp [State.enterStandby, State.restEngine, State.setRunState, State.driversRest, State.leaveWakeListen]
@[simp] theorem enterStandby_engine_snapshot (s : State) : (s.enterStandby).engine.snapshot = s.engine.snapshot := by simp [State.enterStandby, State.restEngine, State.setRunState, State.driversRest, State.leaveWakeListen]
@[simp] theorem enterStandby_engine_scanEpoch (s : State) : (s.enterStandby).engine.scanEpoch = s.engine.scanEpoch := by simp [State.enterStandby, State.restEngine, State.setRunState, State.driversRest, State.leaveWakeListen]
@[simp] theorem enterStandby_engine_counters (s : State) : (s.enterStandby).engine.counters = s.engine.counters := by simp [State.enterStandby, State.restEngine, State.setRunState, State.driversRest, State.leaveWakeListen]
@[simp] theorem enterStandby_engine_sync (s : State) : (s.enterStandby).engine.sync = s.engine.sync := by simp [State.enterStandby, State.restEngine, State.setRunState, State.driversRest, State.leaveWakeListen]
@[simp] theorem enterStandby_link_rxFrame (s : State) : (s.enterStandby).link.rxFrame = s.link.rxFrame := by simp [State.enterStandby, State.restEngine, State.setRunState, State.driversRest, State.leaveWakeListen]
@[simp] theorem enterStandby_link_rxdLow (s : State) : (s.enterStandby).link.rxdLow = s.link.rxdLow := by simp [State.enterStandby, State.restEngine, State.setRunState, State.driversRest, State.leaveWakeListen]
@[simp] theorem enterStandby_link_startBit (s : State) : (s.enterStandby).link.startBit = s.link.startBit := by simp [State.enterStandby, State.restEngine, State.setRunState, State.driversRest, State.leaveWakeListen]
@[simp] theorem enterStandby_link_holding (s : State) : (s.enterStandby).link.holding = s.link.holding := by simp [State.enterStandby, State.restEngine, State.setRunState, State.driversRest, State.leaveWakeListen]
@[simp] theorem enterStandby_link_memory (s : State) : (s.enterStandby).link.memory = s.link.memory := by simp [State.enterStandby, State.restEngine, State.setRunState, State.driversRest, State.leaveWakeListen]
@[simp] theorem enterStandby_link_replies (s : State) : (s.enterStandby).link.replies = s.link.replies := by simp [State.enterStandby, State.restEngine, State.setRunState, State.driversRest, State.leaveWakeListen]
@[simp] theorem enterStandby_link_transmitter (s : State) : (s.enterStandby).link.transmitter = s.link.transmitter := by simp [State.enterStandby, State.restEngine, State.setRunState, State.driversRest, State.leaveWakeListen]
@[simp] theorem enterStandby_link_readyNotice (s : State) : (s.enterStandby).link.readyNotice = s.link.readyNotice := by simp [State.enterStandby, State.restEngine, State.setRunState, State.driversRest, State.leaveWakeListen]
@[simp] theorem enterStandby_link_noticeSeq (s : State) : (s.enterStandby).link.noticeSeq = s.link.noticeSeq := by simp [State.enterStandby, State.restEngine, State.setRunState, State.driversRest, State.leaveWakeListen]
@[simp] theorem enterStandby_link_resetCause (s : State) : (s.enterStandby).link.resetCause = s.link.resetCause := by simp [State.enterStandby, State.restEngine, State.setRunState, State.driversRest, State.leaveWakeListen]
@[simp] theorem enterStandby_link_resetTaken (s : State) : (s.enterStandby).link.resetTaken = s.link.resetTaken := by simp [State.enterStandby, State.restEngine, State.setRunState, State.driversRest, State.leaveWakeListen]
@[simp] theorem enterStandby_link_rate (s : State) : (s.enterStandby).link.rate = s.link.rate := by simp [State.enterStandby, State.restEngine, State.setRunState, State.driversRest, State.leaveWakeListen]
@[simp] theorem enterStandby_link_counters (s : State) : (s.enterStandby).link.counters = s.link.counters := by simp [State.enterStandby, State.restEngine, State.setRunState, State.driversRest, State.leaveWakeListen]
@[simp] theorem enterStandby_engine_runState (s : State) : s.enterStandby.engine.runState = .standby := by simp [State.enterStandby, State.setRunState, State.restEngine]
@[simp] theorem enterStandby_engine_timer (s : State) : s.enterStandby.engine.timer = .stopped := by simp [State.enterStandby, State.setRunState, State.restEngine]
@[simp] theorem enterStandby_engine_settle (s : State) : s.enterStandby.engine.settle = none := by simp [State.enterStandby, State.setRunState, State.restEngine]
@[simp] theorem enterStandby_store_batch (s : State) : s.enterStandby.store.batch = none := by simp [State.enterStandby, State.setRunState, State.restEngine]
@[simp] theorem enterStandby_drivers (s : State) : s.enterStandby.drivers = ⟨s.drivers.a.rest, s.drivers.b.rest⟩ := by
  simp [State.enterStandby, State.restEngine, State.setRunState, State.driversRest, State.leaveWakeListen]
@[simp] theorem enterStandby_link_rxState (s : State) :
    s.enterStandby.link.rxState = s.link.rxState.leaveWakeListen := by
  simp [State.enterStandby, State.restEngine, State.setRunState, State.driversRest, State.leaveWakeListen]

/-- The store and the trackers after entry into STANDBY are those after its boundary. -/
theorem enterStandby_boundary (s : State) :
    ∃ u : State, u.store = s.store ∧ u.trackers = s.trackers ∧ u.engine.scanCounter = s.engine.scanCounter ∧
      u.alerts = s.alerts ∧ u.link.alertNotice = s.link.alertNotice ∧
      s.enterStandby = u.boundary.setRunState .standby :=
  ⟨s.restEngine, rfl, rfl, rfl, rfl, rfl, rfl⟩

/-! ### Scan start -/

@[simp] theorem scanStart_pending (s : State) : (s.scanStart).pending = s.pending := by simp [State.scanStart, State.countScan]
@[simp] theorem scanStart_now (s : State) : (s.scanStart).now = s.now := by simp [State.scanStart, State.countScan]
@[simp] theorem scanStart_phase (s : State) : (s.scanStart).phase = s.phase := by simp [State.scanStart, State.countScan]
@[simp] theorem scanStart_session (s : State) : (s.scanStart).session = s.session := by simp [State.scanStart, State.countScan]
@[simp] theorem scanStart_drivers (s : State) : (s.scanStart).drivers = s.drivers := by simp [State.scanStart, State.countScan]
@[simp] theorem scanStart_subs (s : State) : (s.scanStart).subs = s.subs := by simp [State.scanStart, State.countScan]
@[simp] theorem scanStart_report (s : State) : (s.scanStart).report = s.report := by simp [State.scanStart, State.countScan]
@[simp] theorem scanStart_store_staging (s : State) : (s.scanStart).store.staging = s.store.staging := by simp [State.scanStart, State.countScan]
@[simp] theorem scanStart_engine_mode (s : State) : (s.scanStart).engine.mode = s.engine.mode := by simp [State.scanStart, State.countScan]
@[simp] theorem scanStart_engine_scanLimit (s : State) : (s.scanStart).engine.scanLimit = s.engine.scanLimit := by simp [State.scanStart, State.countScan]
@[simp] theorem scanStart_engine_scansSinceStart (s : State) : (s.scanStart).engine.scansSinceStart = s.engine.scansSinceStart := by simp [State.scanStart, State.countScan]
@[simp] theorem scanStart_frontEnd_measure (s : State) : (s.scanStart).frontEnd.measure = s.frontEnd.measure := by simp [State.scanStart, State.countScan]
@[simp] theorem scanStart_frontEnd_reference (s : State) : (s.scanStart).frontEnd.reference = s.frontEnd.reference := by simp [State.scanStart, State.countScan]
@[simp] theorem scanStart_frontEnd_results (s : State) : (s.scanStart).frontEnd.results = s.frontEnd.results := by simp [State.scanStart, State.countScan]
@[simp] theorem scanStart_link_rxState (s : State) : (s.scanStart).link.rxState = s.link.rxState := by simp [State.scanStart, State.countScan]
@[simp] theorem scanStart_link_rxFrame (s : State) : (s.scanStart).link.rxFrame = s.link.rxFrame := by simp [State.scanStart, State.countScan]
@[simp] theorem scanStart_link_rxdLow (s : State) : (s.scanStart).link.rxdLow = s.link.rxdLow := by simp [State.scanStart, State.countScan]
@[simp] theorem scanStart_link_startBit (s : State) : (s.scanStart).link.startBit = s.link.startBit := by simp [State.scanStart, State.countScan]
@[simp] theorem scanStart_link_holding (s : State) : (s.scanStart).link.holding = s.link.holding := by simp [State.scanStart, State.countScan]
@[simp] theorem scanStart_link_memory (s : State) : (s.scanStart).link.memory = s.link.memory := by simp [State.scanStart, State.countScan]
@[simp] theorem scanStart_link_replies (s : State) : (s.scanStart).link.replies = s.link.replies := by simp [State.scanStart, State.countScan]
@[simp] theorem scanStart_link_transmitter (s : State) : (s.scanStart).link.transmitter = s.link.transmitter := by simp [State.scanStart, State.countScan]
@[simp] theorem scanStart_link_readyNotice (s : State) : (s.scanStart).link.readyNotice = s.link.readyNotice := by simp [State.scanStart, State.countScan]
@[simp] theorem scanStart_link_noticeSeq (s : State) : (s.scanStart).link.noticeSeq = s.link.noticeSeq := by simp [State.scanStart, State.countScan]
@[simp] theorem scanStart_link_resetCause (s : State) : (s.scanStart).link.resetCause = s.link.resetCause := by simp [State.scanStart, State.countScan]
@[simp] theorem scanStart_link_resetTaken (s : State) : (s.scanStart).link.resetTaken = s.link.resetTaken := by simp [State.scanStart, State.countScan]
@[simp] theorem scanStart_link_rate (s : State) : (s.scanStart).link.rate = s.link.rate := by simp [State.scanStart, State.countScan]
@[simp] theorem scanStart_link_counters (s : State) : (s.scanStart).link.counters = s.link.counters := by simp [State.scanStart, State.countScan]
@[simp] theorem scanStart_engine_runState (s : State) : s.scanStart.engine.runState = .scanning := rfl
@[simp] theorem scanStart_engine_settle (s : State) : s.scanStart.engine.settle = none := rfl
@[simp] theorem scanStart_engine_sync (s : State) : s.scanStart.engine.sync = .high := rfl
@[simp] theorem scanStart_store (s : State) : s.scanStart.store = s.countScan.boundary.store := rfl
@[simp] theorem scanStart_trackers (s : State) : s.scanStart.trackers = s.countScan.boundary.trackers := rfl
@[simp] theorem scanStart_alerts (s : State) : s.scanStart.alerts = s.countScan.boundary.alerts := rfl
@[simp] theorem scanStart_link (s : State) : s.scanStart.link = s.countScan.boundary.link := rfl
@[simp] theorem scanStart_engine_scanCounter (s : State) :
    s.scanStart.engine.scanCounter = s.engine.scanCounter + 1 := by
  simp [State.scanStart, State.countScan]
@[simp] theorem scanStart_engine_counters (s : State) :
    s.scanStart.engine.counters = { s.engine.counters with started := s.engine.counters.started + 1 } := by
  simp [State.scanStart, State.countScan]
@[simp] theorem scanStart_engine_scanEpoch (s : State) : s.scanStart.engine.scanEpoch = s.scanStart.store.epoch := rfl
theorem scanStart_engine_snapshot (s : State) (n : Fin 16) :
    s.scanStart.engine.snapshot[n] = s.scanStart.trackers[n].appliedOffset := by
  simp [State.scanStart]
theorem scanStart_frontEnd_slot (s : State) :
    s.scanStart.frontEnd.slot =
      some (beginSlot s.scanStart.store.live 0 s.scanStart.store.live.slots[0] (s.scanStart.now + Config.conversionTime)) := rfl
/-- The scan timer after a scan start is running in FREE mode, and as it was in TRIGGERED mode (R31). -/
theorem scanStart_timer (s : State) :
    (s.engine.mode = .free → s.scanStart.engine.timer ≠ .stopped) ∧
      (s.engine.mode = .triggered → s.scanStart.engine.timer = s.engine.timer) := by
  have h : s.scanStart.engine.timer =
      s.countScan.boundary.engine.timer.atScanStart s.countScan.boundary.engine.mode
        (periodChanged s.countScan.store.live.device s.countScan.boundary.store.live.device)
        s.countScan.boundary.store.live.device.period s.countScan.boundary.now := rfl
  rw [h, boundary_engine_timer, boundary_engine_mode]
  constructor <;> intro hm <;> rw [show s.countScan.engine.mode = s.engine.mode from rfl, hm] <;>
    unfold ScanTimer.atScanStart <;> cases hs : s.countScan.engine.timer <;> simp
  · split_ifs <;> simp
  · exact hs.symm
  · exact hs.symm

/-! ### Settles -/

@[simp] theorem driversWake_eq (s : State) :
    s.driversWake =
      { s with
        drivers :=
          ⟨s.drivers.a.wake (s.store.live.device.level .a), s.drivers.b.wake (s.store.live.device.level .b)⟩ } := rfl

/-! ### The arbiter -/

/-- All that the arbiter's choice can do. -/
theorem arbiter_cases (s : State) :
    s.arbiter = s ∨ ∃ c, s.phase = .running ∧ s.link.transmitter = .idle ∧ s.link.rxdLow = false ∧
      s.candidate = some c ∧ s.arbiter = s.beginChoice c := by
  unfold State.arbiter
  split_ifs with h
  · cases hc : s.candidate with
    | none => exact .inl rfl
    | some c =>
      simp only [State.mayTransmit, Bool.and_eq_true, decide_eq_true_eq, Bool.not_eq_true'] at h
      exact .inr ⟨c, h.1.1, h.1.2, h.2, rfl, rfl⟩
  · exact .inl rfl

@[simp] theorem beginChoice_pending (c : Choice) (s : State) : (s.beginChoice c).pending = s.pending := by cases c <;> rfl
@[simp] theorem beginChoice_now (c : Choice) (s : State) : (s.beginChoice c).now = s.now := by cases c <;> rfl
@[simp] theorem beginChoice_phase (c : Choice) (s : State) : (s.beginChoice c).phase = s.phase := by cases c <;> rfl
@[simp] theorem beginChoice_session (c : Choice) (s : State) : (s.beginChoice c).session = s.session := by cases c <;> rfl
@[simp] theorem beginChoice_store (c : Choice) (s : State) : (s.beginChoice c).store = s.store := by cases c <;> rfl
@[simp] theorem beginChoice_engine (c : Choice) (s : State) : (s.beginChoice c).engine = s.engine := by cases c <;> rfl
@[simp] theorem beginChoice_frontEnd (c : Choice) (s : State) : (s.beginChoice c).frontEnd = s.frontEnd := by cases c <;> rfl
@[simp] theorem beginChoice_drivers (c : Choice) (s : State) : (s.beginChoice c).drivers = s.drivers := by cases c <;> rfl
@[simp] theorem beginChoice_trackers (c : Choice) (s : State) : (s.beginChoice c).trackers = s.trackers := by cases c <;> rfl
@[simp] theorem beginChoice_subs (c : Choice) (s : State) : (s.beginChoice c).subs = s.subs := by cases c <;> rfl
@[simp] theorem beginChoice_alerts_entries (c : Choice) (s : State) : (s.beginChoice c).alerts.entries = s.alerts.entries := by cases c <;> rfl
@[simp] theorem beginChoice_alerts_noticeOutstanding (c : Choice) (s : State) : (s.beginChoice c).alerts.noticeOutstanding = s.alerts.noticeOutstanding := by cases c <;> rfl
@[simp] theorem depart_policy (o : Offer) (q : ReportSide) : (q.depart o).policy = q.policy := by
  cases o <;> simp only [ReportSide.depart]
  split <;> rfl
@[simp] theorem beginChoice_report_policy (c : Choice) (s : State) : (s.beginChoice c).report.policy = s.report.policy := by cases c <;> first | rfl | exact depart_policy _ _
@[simp] theorem beginChoice_link_rxState (c : Choice) (s : State) : (s.beginChoice c).link.rxState = s.link.rxState := by cases c <;> rfl
@[simp] theorem beginChoice_link_rxFrame (c : Choice) (s : State) : (s.beginChoice c).link.rxFrame = s.link.rxFrame := by cases c <;> rfl
@[simp] theorem beginChoice_link_rxdLow (c : Choice) (s : State) : (s.beginChoice c).link.rxdLow = s.link.rxdLow := by cases c <;> rfl
@[simp] theorem beginChoice_link_startBit (c : Choice) (s : State) : (s.beginChoice c).link.startBit = s.link.startBit := by cases c <;> rfl
@[simp] theorem beginChoice_link_holding (c : Choice) (s : State) : (s.beginChoice c).link.holding = s.link.holding := by cases c <;> rfl
@[simp] theorem beginChoice_link_memory (c : Choice) (s : State) : (s.beginChoice c).link.memory = s.link.memory := by cases c <;> rfl
@[simp] theorem beginChoice_link_resetCause (c : Choice) (s : State) : (s.beginChoice c).link.resetCause = s.link.resetCause := by cases c <;> rfl
@[simp] theorem beginChoice_link_resetTaken (c : Choice) (s : State) : (s.beginChoice c).link.resetTaken = s.link.resetTaken := by cases c <;> rfl
@[simp] theorem beginChoice_link_rate (c : Choice) (s : State) : (s.beginChoice c).link.rate = s.link.rate := by cases c <;> rfl
@[simp] theorem arbiter_pending (s : State) : s.arbiter.pending = s.pending := by
  rcases arbiter_cases s with h | ⟨c, -, -, -, -, h⟩ <;> rw [h]; exact beginChoice_pending c s
@[simp] theorem arbiter_now (s : State) : s.arbiter.now = s.now := by
  rcases arbiter_cases s with h | ⟨c, -, -, -, -, h⟩ <;> rw [h]; exact beginChoice_now c s
@[simp] theorem arbiter_phase (s : State) : s.arbiter.phase = s.phase := by
  rcases arbiter_cases s with h | ⟨c, -, -, -, -, h⟩ <;> rw [h]; exact beginChoice_phase c s
@[simp] theorem arbiter_session (s : State) : s.arbiter.session = s.session := by
  rcases arbiter_cases s with h | ⟨c, -, -, -, -, h⟩ <;> rw [h]; exact beginChoice_session c s
@[simp] theorem arbiter_store (s : State) : s.arbiter.store = s.store := by
  rcases arbiter_cases s with h | ⟨c, -, -, -, -, h⟩ <;> rw [h]; exact beginChoice_store c s
@[simp] theorem arbiter_engine (s : State) : s.arbiter.engine = s.engine := by
  rcases arbiter_cases s with h | ⟨c, -, -, -, -, h⟩ <;> rw [h]; exact beginChoice_engine c s
@[simp] theorem arbiter_frontEnd (s : State) : s.arbiter.frontEnd = s.frontEnd := by
  rcases arbiter_cases s with h | ⟨c, -, -, -, -, h⟩ <;> rw [h]; exact beginChoice_frontEnd c s
@[simp] theorem arbiter_drivers (s : State) : s.arbiter.drivers = s.drivers := by
  rcases arbiter_cases s with h | ⟨c, -, -, -, -, h⟩ <;> rw [h]; exact beginChoice_drivers c s
@[simp] theorem arbiter_trackers (s : State) : s.arbiter.trackers = s.trackers := by
  rcases arbiter_cases s with h | ⟨c, -, -, -, -, h⟩ <;> rw [h]; exact beginChoice_trackers c s
@[simp] theorem arbiter_subs (s : State) : s.arbiter.subs = s.subs := by
  rcases arbiter_cases s with h | ⟨c, -, -, -, -, h⟩ <;> rw [h]; exact beginChoice_subs c s
@[simp] theorem arbiter_alerts_entries (s : State) : s.arbiter.alerts.entries = s.alerts.entries := by
  rcases arbiter_cases s with h | ⟨c, -, -, -, -, h⟩ <;> rw [h]; exact beginChoice_alerts_entries c s
@[simp] theorem arbiter_alerts_noticeOutstanding (s : State) : s.arbiter.alerts.noticeOutstanding = s.alerts.noticeOutstanding := by
  rcases arbiter_cases s with h | ⟨c, -, -, -, -, h⟩ <;> rw [h]; exact beginChoice_alerts_noticeOutstanding c s
@[simp] theorem arbiter_report_policy (s : State) : s.arbiter.report.policy = s.report.policy := by
  rcases arbiter_cases s with h | ⟨c, -, -, -, -, h⟩ <;> rw [h]; exact beginChoice_report_policy c s
@[simp] theorem arbiter_link_rxState (s : State) : s.arbiter.link.rxState = s.link.rxState := by
  rcases arbiter_cases s with h | ⟨c, -, -, -, -, h⟩ <;> rw [h]; exact beginChoice_link_rxState c s
@[simp] theorem arbiter_link_rxFrame (s : State) : s.arbiter.link.rxFrame = s.link.rxFrame := by
  rcases arbiter_cases s with h | ⟨c, -, -, -, -, h⟩ <;> rw [h]; exact beginChoice_link_rxFrame c s
@[simp] theorem arbiter_link_rxdLow (s : State) : s.arbiter.link.rxdLow = s.link.rxdLow := by
  rcases arbiter_cases s with h | ⟨c, -, -, -, -, h⟩ <;> rw [h]; exact beginChoice_link_rxdLow c s
@[simp] theorem arbiter_link_startBit (s : State) : s.arbiter.link.startBit = s.link.startBit := by
  rcases arbiter_cases s with h | ⟨c, -, -, -, -, h⟩ <;> rw [h]; exact beginChoice_link_startBit c s
@[simp] theorem arbiter_link_holding (s : State) : s.arbiter.link.holding = s.link.holding := by
  rcases arbiter_cases s with h | ⟨c, -, -, -, -, h⟩ <;> rw [h]; exact beginChoice_link_holding c s
@[simp] theorem arbiter_link_memory (s : State) : s.arbiter.link.memory = s.link.memory := by
  rcases arbiter_cases s with h | ⟨c, -, -, -, -, h⟩ <;> rw [h]; exact beginChoice_link_memory c s
@[simp] theorem arbiter_link_resetCause (s : State) : s.arbiter.link.resetCause = s.link.resetCause := by
  rcases arbiter_cases s with h | ⟨c, -, -, -, -, h⟩ <;> rw [h]; exact beginChoice_link_resetCause c s
@[simp] theorem arbiter_link_resetTaken (s : State) : s.arbiter.link.resetTaken = s.link.resetTaken := by
  rcases arbiter_cases s with h | ⟨c, -, -, -, -, h⟩ <;> rw [h]; exact beginChoice_link_resetTaken c s
@[simp] theorem arbiter_link_rate (s : State) : s.arbiter.link.rate = s.link.rate := by
  rcases arbiter_cases s with h | ⟨c, -, -, -, -, h⟩ <;> rw [h]; exact beginChoice_link_rate c s

/-! ### Arrivals -/

/-- All that an arrival does: the report side takes the record, and a full queue makes a latch (R118, R130). -/
theorem arrive_eq_latched (r : ReportRecord) (s : State) :
    s.arrive r = latched (if s.report.full then [.reportLoss] else []) { s with report := s.report.arrive r } := by
  unfold State.arrive
  split_ifs <;> simp [latch_eq_latched]

@[simp] theorem arrive_pending (r : ReportRecord) (s : State) : (s.arrive r).pending = s.pending := by rw [arrive_eq_latched]; rfl
@[simp] theorem arrive_now (r : ReportRecord) (s : State) : (s.arrive r).now = s.now := by rw [arrive_eq_latched]; rfl
@[simp] theorem arrive_phase (r : ReportRecord) (s : State) : (s.arrive r).phase = s.phase := by rw [arrive_eq_latched]; rfl
@[simp] theorem arrive_session (r : ReportRecord) (s : State) : (s.arrive r).session = s.session := by rw [arrive_eq_latched]; rfl
@[simp] theorem arrive_store (r : ReportRecord) (s : State) : (s.arrive r).store = s.store := by rw [arrive_eq_latched]; rfl
@[simp] theorem arrive_engine (r : ReportRecord) (s : State) : (s.arrive r).engine = s.engine := by rw [arrive_eq_latched]; rfl
@[simp] theorem arrive_frontEnd (r : ReportRecord) (s : State) : (s.arrive r).frontEnd = s.frontEnd := by rw [arrive_eq_latched]; rfl
@[simp] theorem arrive_drivers (r : ReportRecord) (s : State) : (s.arrive r).drivers = s.drivers := by rw [arrive_eq_latched]; rfl
@[simp] theorem arrive_trackers (r : ReportRecord) (s : State) : (s.arrive r).trackers = s.trackers := by rw [arrive_eq_latched]; rfl
@[simp] theorem arrive_subs (r : ReportRecord) (s : State) : (s.arrive r).subs = s.subs := by rw [arrive_eq_latched]; rfl
@[simp] theorem arrive_link_rxState (r : ReportRecord) (s : State) : (s.arrive r).link.rxState = s.link.rxState := by rw [arrive_eq_latched]; rfl
@[simp] theorem arrive_link_rxFrame (r : ReportRecord) (s : State) : (s.arrive r).link.rxFrame = s.link.rxFrame := by rw [arrive_eq_latched]; rfl
@[simp] theorem arrive_link_rxdLow (r : ReportRecord) (s : State) : (s.arrive r).link.rxdLow = s.link.rxdLow := by rw [arrive_eq_latched]; rfl
@[simp] theorem arrive_link_startBit (r : ReportRecord) (s : State) : (s.arrive r).link.startBit = s.link.startBit := by rw [arrive_eq_latched]; rfl
@[simp] theorem arrive_link_holding (r : ReportRecord) (s : State) : (s.arrive r).link.holding = s.link.holding := by rw [arrive_eq_latched]; rfl
@[simp] theorem arrive_link_memory (r : ReportRecord) (s : State) : (s.arrive r).link.memory = s.link.memory := by rw [arrive_eq_latched]; rfl
@[simp] theorem arrive_link_replies (r : ReportRecord) (s : State) : (s.arrive r).link.replies = s.link.replies := by rw [arrive_eq_latched]; rfl
@[simp] theorem arrive_link_transmitter (r : ReportRecord) (s : State) : (s.arrive r).link.transmitter = s.link.transmitter := by rw [arrive_eq_latched]; rfl
@[simp] theorem arrive_link_readyNotice (r : ReportRecord) (s : State) : (s.arrive r).link.readyNotice = s.link.readyNotice := by rw [arrive_eq_latched]; rfl
@[simp] theorem arrive_link_noticeSeq (r : ReportRecord) (s : State) : (s.arrive r).link.noticeSeq = s.link.noticeSeq := by rw [arrive_eq_latched]; rfl
@[simp] theorem arrive_link_resetCause (r : ReportRecord) (s : State) : (s.arrive r).link.resetCause = s.link.resetCause := by rw [arrive_eq_latched]; rfl
@[simp] theorem arrive_link_resetTaken (r : ReportRecord) (s : State) : (s.arrive r).link.resetTaken = s.link.resetTaken := by rw [arrive_eq_latched]; rfl
@[simp] theorem arrive_link_rate (r : ReportRecord) (s : State) : (s.arrive r).link.rate = s.link.rate := by rw [arrive_eq_latched]; rfl
@[simp] theorem arrive_link_counters (r : ReportRecord) (s : State) : (s.arrive r).link.counters = s.link.counters := by rw [arrive_eq_latched]; rfl
@[simp] theorem arrive_report (r : ReportRecord) (s : State) : (s.arrive r).report = s.report.arrive r := by
  rw [arrive_eq_latched]; rfl

/-- What holds before the arrivals of a completion, and is kept by an arrival and by the arbiter's choice, holds after them. -/
theorem arriveAll_induction {p : State → Prop} (choice : Option Nat) (arrives : ∀ r s, p s → p (s.arrive r))
    (chooses : ∀ s, p s → p s.arbiter) (rs : List ReportRecord) (done : Nat) (s : State) (h : p s) :
    p (s.arriveAll choice done rs) := by
  induction rs generalizing done s with
  | nil => exact h
  | cons r rest ih =>
    cases rest with
    | nil => exact arrives r s h
    | cons r' rest =>
      simp only [State.arriveAll]
      split_ifs
      · exact ih _ _ (chooses _ (arrives r s h))
      · exact ih _ _ (arrives r s h)

@[simp] theorem arriveAll_pending (choice : Option Nat) (done : Nat) (rs : List ReportRecord) (s : State) :
    (s.arriveAll choice done rs).pending = s.pending :=
  arriveAll_induction (p := fun t => t.pending = s.pending) choice (fun r t h => by simpa using h) (fun t h => by simpa using h) rs done s rfl
@[simp] theorem arriveAll_now (choice : Option Nat) (done : Nat) (rs : List ReportRecord) (s : State) :
    (s.arriveAll choice done rs).now = s.now :=
  arriveAll_induction (p := fun t => t.now = s.now) choice (fun r t h => by simpa using h) (fun t h => by simpa using h) rs done s rfl
@[simp] theorem arriveAll_phase (choice : Option Nat) (done : Nat) (rs : List ReportRecord) (s : State) :
    (s.arriveAll choice done rs).phase = s.phase :=
  arriveAll_induction (p := fun t => t.phase = s.phase) choice (fun r t h => by simpa using h) (fun t h => by simpa using h) rs done s rfl
@[simp] theorem arriveAll_session (choice : Option Nat) (done : Nat) (rs : List ReportRecord) (s : State) :
    (s.arriveAll choice done rs).session = s.session :=
  arriveAll_induction (p := fun t => t.session = s.session) choice (fun r t h => by simpa using h) (fun t h => by simpa using h) rs done s rfl
@[simp] theorem arriveAll_store (choice : Option Nat) (done : Nat) (rs : List ReportRecord) (s : State) :
    (s.arriveAll choice done rs).store = s.store :=
  arriveAll_induction (p := fun t => t.store = s.store) choice (fun r t h => by simpa using h) (fun t h => by simpa using h) rs done s rfl
@[simp] theorem arriveAll_engine (choice : Option Nat) (done : Nat) (rs : List ReportRecord) (s : State) :
    (s.arriveAll choice done rs).engine = s.engine :=
  arriveAll_induction (p := fun t => t.engine = s.engine) choice (fun r t h => by simpa using h) (fun t h => by simpa using h) rs done s rfl
@[simp] theorem arriveAll_frontEnd (choice : Option Nat) (done : Nat) (rs : List ReportRecord) (s : State) :
    (s.arriveAll choice done rs).frontEnd = s.frontEnd :=
  arriveAll_induction (p := fun t => t.frontEnd = s.frontEnd) choice (fun r t h => by simpa using h) (fun t h => by simpa using h) rs done s rfl
@[simp] theorem arriveAll_drivers (choice : Option Nat) (done : Nat) (rs : List ReportRecord) (s : State) :
    (s.arriveAll choice done rs).drivers = s.drivers :=
  arriveAll_induction (p := fun t => t.drivers = s.drivers) choice (fun r t h => by simpa using h) (fun t h => by simpa using h) rs done s rfl
@[simp] theorem arriveAll_trackers (choice : Option Nat) (done : Nat) (rs : List ReportRecord) (s : State) :
    (s.arriveAll choice done rs).trackers = s.trackers :=
  arriveAll_induction (p := fun t => t.trackers = s.trackers) choice (fun r t h => by simpa using h) (fun t h => by simpa using h) rs done s rfl
@[simp] theorem arriveAll_subs (choice : Option Nat) (done : Nat) (rs : List ReportRecord) (s : State) :
    (s.arriveAll choice done rs).subs = s.subs :=
  arriveAll_induction (p := fun t => t.subs = s.subs) choice (fun r t h => by simpa using h) (fun t h => by simpa using h) rs done s rfl
@[simp] theorem arriveAll_link_rxState (choice : Option Nat) (done : Nat) (rs : List ReportRecord) (s : State) :
    (s.arriveAll choice done rs).link.rxState = s.link.rxState :=
  arriveAll_induction (p := fun t => t.link.rxState = s.link.rxState) choice (fun r t h => by simpa using h) (fun t h => by simpa using h) rs done s rfl
@[simp] theorem arriveAll_link_rxFrame (choice : Option Nat) (done : Nat) (rs : List ReportRecord) (s : State) :
    (s.arriveAll choice done rs).link.rxFrame = s.link.rxFrame :=
  arriveAll_induction (p := fun t => t.link.rxFrame = s.link.rxFrame) choice (fun r t h => by simpa using h) (fun t h => by simpa using h) rs done s rfl
@[simp] theorem arriveAll_link_rxdLow (choice : Option Nat) (done : Nat) (rs : List ReportRecord) (s : State) :
    (s.arriveAll choice done rs).link.rxdLow = s.link.rxdLow :=
  arriveAll_induction (p := fun t => t.link.rxdLow = s.link.rxdLow) choice (fun r t h => by simpa using h) (fun t h => by simpa using h) rs done s rfl
@[simp] theorem arriveAll_link_startBit (choice : Option Nat) (done : Nat) (rs : List ReportRecord) (s : State) :
    (s.arriveAll choice done rs).link.startBit = s.link.startBit :=
  arriveAll_induction (p := fun t => t.link.startBit = s.link.startBit) choice (fun r t h => by simpa using h) (fun t h => by simpa using h) rs done s rfl
@[simp] theorem arriveAll_link_holding (choice : Option Nat) (done : Nat) (rs : List ReportRecord) (s : State) :
    (s.arriveAll choice done rs).link.holding = s.link.holding :=
  arriveAll_induction (p := fun t => t.link.holding = s.link.holding) choice (fun r t h => by simpa using h) (fun t h => by simpa using h) rs done s rfl
@[simp] theorem arriveAll_link_memory (choice : Option Nat) (done : Nat) (rs : List ReportRecord) (s : State) :
    (s.arriveAll choice done rs).link.memory = s.link.memory :=
  arriveAll_induction (p := fun t => t.link.memory = s.link.memory) choice (fun r t h => by simpa using h) (fun t h => by simpa using h) rs done s rfl
@[simp] theorem arriveAll_link_resetCause (choice : Option Nat) (done : Nat) (rs : List ReportRecord) (s : State) :
    (s.arriveAll choice done rs).link.resetCause = s.link.resetCause :=
  arriveAll_induction (p := fun t => t.link.resetCause = s.link.resetCause) choice (fun r t h => by simpa using h) (fun t h => by simpa using h) rs done s rfl
@[simp] theorem arriveAll_link_resetTaken (choice : Option Nat) (done : Nat) (rs : List ReportRecord) (s : State) :
    (s.arriveAll choice done rs).link.resetTaken = s.link.resetTaken :=
  arriveAll_induction (p := fun t => t.link.resetTaken = s.link.resetTaken) choice (fun r t h => by simpa using h) (fun t h => by simpa using h) rs done s rfl
@[simp] theorem arriveAll_link_rate (choice : Option Nat) (done : Nat) (rs : List ReportRecord) (s : State) :
    (s.arriveAll choice done rs).link.rate = s.link.rate :=
  arriveAll_induction (p := fun t => t.link.rate = s.link.rate) choice (fun r t h => by simpa using h) (fun t h => by simpa using h) rs done s rfl

/-! ### A scan completion -/

/-- The state in which a completion leaves SCANNING or DRAINING: everything but the run state and what goes with it. -/
def State.completed (choice : Option Nat) (s : State) : State :=
  (s.countCompletion.rewriteResults.trackCompletion.evaluateSubscriptions choice).clearScan

/-- A completion ends in WAITING or in STANDBY (R41). -/
theorem completeScan_eq (choice : Option Nat) (s : State) :
    s.completeScan choice =
      if s.engine.runState = .scanning ∧
          ({ s.engine with scansSinceStart := s.engine.scansSinceStart + 1 } : ScanEngine).limitReached = false then
        (s.completed choice).setRunState .waiting
      else (s.completed choice).enterStandby := by
  have h : (s.completed choice).engine.runState = s.engine.runState ∧
      (s.completed choice).engine.limitReached =
        ({ s.engine with scansSinceStart := s.engine.scansSinceStart + 1 } : ScanEngine).limitReached := by
    simp [State.completed, State.countCompletion, State.rewriteResults, State.trackCompletion, State.evaluateSubscriptions,
      State.clearScan, latchAll_eq_latched, ScanEngine.limitReached]
  rw [← h.1, ← h.2]
  rfl

@[simp] theorem completed_pending (choice : Option Nat) (s : State) : (s.completed choice).pending = s.pending := by
  simp [State.completed, State.countCompletion, State.rewriteResults, State.trackCompletion, State.evaluateSubscriptions, State.clearScan, latchAll_eq_latched]
@[simp] theorem completed_now (choice : Option Nat) (s : State) : (s.completed choice).now = s.now := by
  simp [State.completed, State.countCompletion, State.rewriteResults, State.trackCompletion, State.evaluateSubscriptions, State.clearScan, latchAll_eq_latched]
@[simp] theorem completed_phase (choice : Option Nat) (s : State) : (s.completed choice).phase = s.phase := by
  simp [State.completed, State.countCompletion, State.rewriteResults, State.trackCompletion, State.evaluateSubscriptions, State.clearScan, latchAll_eq_latched]
@[simp] theorem completed_session (choice : Option Nat) (s : State) : (s.completed choice).session = s.session := by
  simp [State.completed, State.countCompletion, State.rewriteResults, State.trackCompletion, State.evaluateSubscriptions, State.clearScan, latchAll_eq_latched]
@[simp] theorem completed_store (choice : Option Nat) (s : State) : (s.completed choice).store = s.store := by
  simp [State.completed, State.countCompletion, State.rewriteResults, State.trackCompletion, State.evaluateSubscriptions, State.clearScan, latchAll_eq_latched]
@[simp] theorem completed_drivers (choice : Option Nat) (s : State) : (s.completed choice).drivers = s.drivers := by
  simp [State.completed, State.countCompletion, State.rewriteResults, State.trackCompletion, State.evaluateSubscriptions, State.clearScan, latchAll_eq_latched]
@[simp] theorem completed_engine_runState (choice : Option Nat) (s : State) : (s.completed choice).engine.runState = s.engine.runState := by
  simp [State.completed, State.countCompletion, State.rewriteResults, State.trackCompletion, State.evaluateSubscriptions, State.clearScan, latchAll_eq_latched]
@[simp] theorem completed_engine_mode (choice : Option Nat) (s : State) : (s.completed choice).engine.mode = s.engine.mode := by
  simp [State.completed, State.countCompletion, State.rewriteResults, State.trackCompletion, State.evaluateSubscriptions, State.clearScan, latchAll_eq_latched]
@[simp] theorem completed_engine_scanLimit (choice : Option Nat) (s : State) : (s.completed choice).engine.scanLimit = s.engine.scanLimit := by
  simp [State.completed, State.countCompletion, State.rewriteResults, State.trackCompletion, State.evaluateSubscriptions, State.clearScan, latchAll_eq_latched]
@[simp] theorem completed_engine_scanCounter (choice : Option Nat) (s : State) : (s.completed choice).engine.scanCounter = s.engine.scanCounter := by
  simp [State.completed, State.countCompletion, State.rewriteResults, State.trackCompletion, State.evaluateSubscriptions, State.clearScan, latchAll_eq_latched]
@[simp] theorem completed_engine_timer (choice : Option Nat) (s : State) : (s.completed choice).engine.timer = s.engine.timer := by
  simp [State.completed, State.countCompletion, State.rewriteResults, State.trackCompletion, State.evaluateSubscriptions, State.clearScan, latchAll_eq_latched]
@[simp] theorem completed_engine_settle (choice : Option Nat) (s : State) : (s.completed choice).engine.settle = s.engine.settle := by
  simp [State.completed, State.countCompletion, State.rewriteResults, State.trackCompletion, State.evaluateSubscriptions, State.clearScan, latchAll_eq_latched]
@[simp] theorem completed_engine_qualifier (choice : Option Nat) (s : State) : (s.completed choice).engine.qualifier = s.engine.qualifier := by
  simp [State.completed, State.countCompletion, State.rewriteResults, State.trackCompletion, State.evaluateSubscriptions, State.clearScan, latchAll_eq_latched]
@[simp] theorem completed_engine_snapshot (choice : Option Nat) (s : State) : (s.completed choice).engine.snapshot = s.engine.snapshot := by
  simp [State.completed, State.countCompletion, State.rewriteResults, State.trackCompletion, State.evaluateSubscriptions, State.clearScan, latchAll_eq_latched]
@[simp] theorem completed_engine_scanEpoch (choice : Option Nat) (s : State) : (s.completed choice).engine.scanEpoch = s.engine.scanEpoch := by
  simp [State.completed, State.countCompletion, State.rewriteResults, State.trackCompletion, State.evaluateSubscriptions, State.clearScan, latchAll_eq_latched]
@[simp] theorem completed_engine_sync (choice : Option Nat) (s : State) : (s.completed choice).engine.sync = s.engine.sync := by
  simp [State.completed, State.countCompletion, State.rewriteResults, State.trackCompletion, State.evaluateSubscriptions, State.clearScan, latchAll_eq_latched]
@[simp] theorem completed_link_rxState (choice : Option Nat) (s : State) : (s.completed choice).link.rxState = s.link.rxState := by
  simp [State.completed, State.countCompletion, State.rewriteResults, State.trackCompletion, State.evaluateSubscriptions, State.clearScan, latchAll_eq_latched]
@[simp] theorem completed_link_rxFrame (choice : Option Nat) (s : State) : (s.completed choice).link.rxFrame = s.link.rxFrame := by
  simp [State.completed, State.countCompletion, State.rewriteResults, State.trackCompletion, State.evaluateSubscriptions, State.clearScan, latchAll_eq_latched]
@[simp] theorem completed_link_rxdLow (choice : Option Nat) (s : State) : (s.completed choice).link.rxdLow = s.link.rxdLow := by
  simp [State.completed, State.countCompletion, State.rewriteResults, State.trackCompletion, State.evaluateSubscriptions, State.clearScan, latchAll_eq_latched]
@[simp] theorem completed_link_startBit (choice : Option Nat) (s : State) : (s.completed choice).link.startBit = s.link.startBit := by
  simp [State.completed, State.countCompletion, State.rewriteResults, State.trackCompletion, State.evaluateSubscriptions, State.clearScan, latchAll_eq_latched]
@[simp] theorem completed_link_holding (choice : Option Nat) (s : State) : (s.completed choice).link.holding = s.link.holding := by
  simp [State.completed, State.countCompletion, State.rewriteResults, State.trackCompletion, State.evaluateSubscriptions, State.clearScan, latchAll_eq_latched]
@[simp] theorem completed_link_memory (choice : Option Nat) (s : State) : (s.completed choice).link.memory = s.link.memory := by
  simp [State.completed, State.countCompletion, State.rewriteResults, State.trackCompletion, State.evaluateSubscriptions, State.clearScan, latchAll_eq_latched]
@[simp] theorem completed_link_resetCause (choice : Option Nat) (s : State) : (s.completed choice).link.resetCause = s.link.resetCause := by
  simp [State.completed, State.countCompletion, State.rewriteResults, State.trackCompletion, State.evaluateSubscriptions, State.clearScan, latchAll_eq_latched]
@[simp] theorem completed_link_resetTaken (choice : Option Nat) (s : State) : (s.completed choice).link.resetTaken = s.link.resetTaken := by
  simp [State.completed, State.countCompletion, State.rewriteResults, State.trackCompletion, State.evaluateSubscriptions, State.clearScan, latchAll_eq_latched]
@[simp] theorem completed_link_rate (choice : Option Nat) (s : State) : (s.completed choice).link.rate = s.link.rate := by
  simp [State.completed, State.countCompletion, State.rewriteResults, State.trackCompletion, State.evaluateSubscriptions, State.clearScan, latchAll_eq_latched]
@[simp] theorem completed_engine_counters (choice : Option Nat) (s : State) :
    (s.completed choice).engine.counters = { s.engine.counters with completed := s.engine.counters.completed + 1 } := by
  simp [State.completed, State.countCompletion, State.rewriteResults, State.trackCompletion, State.evaluateSubscriptions, State.clearScan, latchAll_eq_latched]
@[simp] theorem completed_engine_scansSinceStart (choice : Option Nat) (s : State) :
    (s.completed choice).engine.scansSinceStart = s.engine.scansSinceStart + 1 := by
  simp [State.completed, State.countCompletion, State.rewriteResults, State.trackCompletion, State.evaluateSubscriptions, State.clearScan, latchAll_eq_latched]
@[simp] theorem completed_frontEnd (choice : Option Nat) (s : State) :
    (s.completed choice).frontEnd =
      { slot := none, measure := .replicate 16 [], reference := .replicate 16 [], results := .ofFn s.newResult } := by
  simp [State.completed, State.countCompletion, State.rewriteResults, State.trackCompletion, State.evaluateSubscriptions, State.clearScan, latchAll_eq_latched]
  rfl
@[simp] theorem completed_trackers (choice : Option Nat) (s : State) :
    (s.completed choice).trackers = .ofFn fun n => (s.trackerCompleted n).record := by
  simp [State.completed, State.countCompletion, State.rewriteResults, State.trackCompletion, State.evaluateSubscriptions, State.clearScan, latchAll_eq_latched]
  rfl
@[simp] theorem completed_subs (choice : Option Nat) (s : State) :
    (s.completed choice).subs = s.subs.map fun e => (e.step (.ofFn s.newResult)).1 := by
  simp [State.completed, State.countCompletion, State.rewriteResults, State.trackCompletion, State.evaluateSubscriptions, State.clearScan, latchAll_eq_latched]
  intro e _
  rfl

/-! ### Resets -/

/-- A reset leaves every block at its reset values (R184). -/
theorem blocksReset_eq (phase : Phase) (s : State) :
    s.blocksReset phase = atReset s.pending phase s.link.resetCause s.link.rate := rfl

theorem requestedReset_eq (rate : Level) (s : State) :
    s.requestedReset rate = atReset s.pending .startUp .request (rateOfLevel rate) := rfl

end Sys2Proof.Machine
end

