-- ==== Sys2Proof/Laws/ReportQueue.lean ====
section
/-! SUPPORT. The report side: its laws kept by an arrival (R118 to R121), a departure (R124), HELLO (R127) and GRANT (R122), and the
bodies of its notices against the terms of the claims (R194, R195). -/

namespace Sys2Proof.Machine

theorem full_iff (q : ReportSide) : q.full = true ↔ 48 ≤ q.queue.length := decide_eq_true_iff

@[simp] theorem reportEntries_append (xs ys : List QueueEntry) :
    reportEntries (xs ++ ys) = reportEntries xs + reportEntries ys := by
  induction xs with
  | nil => simp [reportEntries]
  | cons x xs ih => cases x <;> simp [reportEntries, ih]; omega

theorem reports_eq_reportEntries (q : ReportSide) : q.reports = reportEntries q.queue := by
  unfold ReportSide.reports
  induction q.queue with
  | nil => rfl
  | cons x xs ih => cases x <;> simp [reportEntries, ih]

theorem lossLaw_tallyAdd {t : Option Loss} {l : Loss} (ht : ∀ x, t = some x → LossLaw x) (hl : LossLaw l) :
    LossLaw (tallyAdd t l) := by
  cases t with
  | none => exact hl
  | some x =>
    have := ht x rfl
    unfold LossLaw at *
    simp only [tallyAdd, Config.saturation]
    omega

theorem queueLaw_arrive {q : ReportSide} (r : ReportRecord) (h : QueueLaw q) : QueueLaw (q.arrive r) := by
  obtain ⟨queue, tally, policy, credits, counters⟩ := q
  have one (x : ReportRecord) : LossLaw x.loss := by unfold LossLaw ReportRecord.loss; simp
  obtain ⟨hl, htf, ht, hg, hc⟩ := h
  simp only at hl htf ht hg hc
  unfold ReportSide.arrive
  split_ifs with hf
  · have h48 := (full_iff _).1 hf
    simp only at h48
    cases policy with
    | dropNewest => exact ⟨hl, fun _ => by simp only [ReportSide.overflow]; omega,
        by rintro l ⟨⟩; exact lossLaw_tallyAdd ht (one _), hg, hc⟩
    | dropOldest =>
      cases queue with
      | nil => simp at h48
      | cons e rest =>
        cases e with
        | report x =>
          simp at hl h48
          refine ⟨by simp [ReportSide.overflow]; omega, fun _ => by simp [ReportSide.overflow]; omega,
            by rintro l ⟨⟩; exact lossLaw_tallyAdd ht (one _), fun l hm => hg l ?_, hc⟩
          simpa [ReportSide.overflow] using hm
        | gap g => cases (hg g (by simp)).2
  · have hlt : queue.length < 48 := by have := mt (full_iff _).2 hf; simp only at this; omega
    have ht' : tally = none := by
      by_contra hn
      have := htf hn
      omega
    refine ⟨by simp; omega, fun hn => absurd ht' hn, ht, fun l hm => hg l ?_, hc⟩
    simpa using hm

/-- The account of R128 across an arrival. -/
theorem account_arrive {q : ReportSide} (r : ReportRecord) (hq : QueueLaw q) (h : Account q) : Account (q.arrive r) := by
  obtain ⟨queue, tally, policy, credits, counters⟩ := q
  unfold Account at *
  simp only at h
  unfold ReportSide.arrive
  split_ifs with hf
  · have h48 := (full_iff _).1 hf
    simp only at h48
    cases policy with
    | dropNewest => simp only [ReportSide.overflow]; rw [h]; ac_rfl
    | dropOldest =>
      cases queue with
      | nil => simp at h48
      | cons e rest =>
        cases e with
        | report x =>
          simp only [reportEntries, BitVec.ofNat_add] at h
          simp only [ReportSide.overflow, reportEntries_append, reportEntries, Nat.zero_add, BitVec.ofNat_add]
          rw [h]; ac_rfl
        | gap g => cases (hq.gaps g (by simp)).2
  · simp only [reportEntries_append, reportEntries, Nat.zero_add, BitVec.ofNat_add]
    rw [h]; ac_rfl

/-- What an offer is: the tally under DROP_OLDEST, else the head, with a credit to spend (R123). -/
theorem offer_cases {q : ReportSide} {o : Offer} (h : q.offer = some o) :
    1 ≤ q.credits ∧
      ((∃ l, q.policy = .dropOldest ∧ q.tally = some l ∧ o = .tallyGap l) ∨
        ∃ e rest, q.queue = e :: rest ∧ (q.policy = .dropNewest ∨ q.tally = none) ∧ o = .head e) := by
  unfold ReportSide.offer at h
  split_ifs at h with h0
  refine ⟨by omega, ?_⟩
  split at h
  · next l hp ht => cases h; exact .inl ⟨l, hp, ht, rfl⟩
  · next hno =>
    right
    cases hq : q.queue with
    | nil => rw [hq] at h; simp at h
    | cons e rest =>
      rw [hq] at h
      simp at h
      refine ⟨e, rest, rfl, ?_, h.symm⟩
      cases hp : q.policy
      · exact .inl rfl
      · right
        cases ht : q.tally with
        | none => rfl
        | some l => exact (hno l hp ht).elim

theorem queueLaw_depart {q : ReportSide} {o : Offer} (ho : q.offer = some o) (h : QueueLaw q) : QueueLaw (q.depart o) := by
  have hl := h.length
  have hc := h.credits
  rcases (offer_cases ho).2 with ⟨l, hp, ht, rfl⟩ | ⟨e, rest, hq, hpt, rfl⟩
  · exact ⟨hl, by simp [ReportSide.depart], by simp [ReportSide.depart], h.gaps, by simp only [ReportSide.depart]; omega⟩
  · rw [hq] at hl
    simp at hl
    have tl : ∀ l, QueueEntry.gap l ∈ rest → LossLaw l ∧ q.policy = .dropNewest := fun l hg =>
      h.gaps l (by rw [hq]; exact List.mem_cons_of_mem _ hg)
    simp only [ReportSide.depart]
    split
    · next t hp ht =>
      refine ⟨by simp [hq]; omega, by simp, by simp, fun l hg => ?_, by simp only; omega⟩
      simp only [hq, List.tail_cons, List.mem_append, List.mem_singleton, QueueEntry.gap.injEq] at hg
      rcases hg with hg | rfl
      · exact tl l hg
      · exact ⟨h.tally _ ht, hp⟩
    · next hno =>
      have ht : q.tally = none := by
        rcases hpt with hp | ht
        · cases ht : q.tally with
          | none => rfl
          | some t => exact (hno t hp ht).elim
        · exact ht
      exact ⟨by simp [hq]; omega, fun hcc => absurd ht hcc, h.tally, fun l hg => tl l (by simpa [hq] using hg), by simp only; omega⟩

/-- The account of R128 across a departure. -/
theorem account_depart {q : ReportSide} {o : Offer} (ho : q.offer = some o) (h : Account q) : Account (q.depart o) := by
  unfold Account at *
  rcases (offer_cases ho).2 with ⟨l, hp, ht, rfl⟩ | ⟨e, rest, hq, hpt, rfl⟩
  · exact h
  · rw [hq] at h
    simp only [ReportSide.depart]
    split <;> cases e <;>
      simp only [hq, List.tail_cons, ReportCounters.countSent, reportEntries_append, reportEntries, Nat.add_zero,
        BitVec.ofNat_add] at h ⊢ <;>
      rw [h] <;> ac_rfl

theorem queueLaw_reopen {q : ReportSide} {policy : Policy} {credits : Nat} (hc : credits ≤ 255) :
    QueueLaw (q.reopen policy credits) :=
  ⟨by simp [ReportSide.reopen], by simp [ReportSide.reopen], by simp [ReportSide.reopen], by simp [ReportSide.reopen], hc⟩

theorem account_reopen {q : ReportSide} {policy : Policy} {credits : Nat} (h : Account q) :
    Account (q.reopen policy credits) := by
  unfold Account at *
  simp only [ReportSide.reopen, reportEntries, reports_eq_reportEntries]
  rw [h]; ac_rfl

/-! ### The bodies of notices -/

theorem body_eq_reportBytes (r : ReportRecord) : r.body = reportBytes r := by
  unfold ReportRecord.body reportBytes StatusFlags.byte ReportRecord.presence bitsByte presentBytes
  cases r.zone <;> cases r.value <;> cases r.rawMean <;> cases r.offsetUsed <;> rfl

theorem body_eq_gapBytes (l : Loss) : l.body = gapBytes l := rfl

end Sys2Proof.Machine
end

