-- ==== Sys2Proof/WellFormed.lean ====
section
/-! DEFINITION. The commands that name a possible event. An ill-formed LENGTH_ERROR is not the event its row
describes and has no effect (log entry 2); an ill-formed choice among arrivals is one that never falls (log entry 14). -/

namespace Sys2Proof

/-- LENGTH_ERROR is a LEN byte above 240 (R149). -/
def lengthErrorOk (len : Byte) : Bool := decide (Config.maxLen < len.toNat)

/-- A completion makes at most 24 arrivals (R104), so a choice "between two arrivals" (R118) comes after 1 to 23. -/
def choiceOk : Option Nat → Bool
  | none => true
  | some k => decide (1 ≤ k) && decide (k < Config.subscriptions)

/-- The checks on a command's operands. -/
def Instr.wellFormed : Instr → Bool
  | .lengthError len => lengthErrorOk len
  | .conversionEnd _ _ choiceAfter => choiceOk choiceAfter
  | .hello | .getState | .reset | .stage | .discard | .seal | .readConfig | .start | .stop | .abort | .retrack
  | .readTracker | .readResults | .subscribe | .unsubscribe | .listSubscriptions | .grant | .ackAlerts
  | .readAlerts | .readCounters | .unknownKind | .duplicate | .frameArrival _ | .characterTimeout
  | .breakDetected _ | .breakEnd | .wake | .wakeQuietEnd | .arbiterChoice | .transmitEnd _ | .powerOn _ _
  | .resetNLow | .resetNHigh _ | .startUpEnd | .armingSettleEnd | .timerExpiry | .trigEdge _ | .trigger
  | .wakeSettleEnd | .syncPulseEnd | .dozeEntry | .overcurrent _ | .characterReceived _ => true

end Sys2Proof
end

