-- ==== Sys2Proof/Tests/Slice0.lean ====
section
/-! SUPPORT. Tests of the model: ill-formed operands, the manual's worked figures, one or two facts per command, and for every
statement with hypotheses a concrete state and operands that meet them. Expected values come from the rule or the worked
sequence each comment names. -/

namespace Sys2Proof.Machine

-- One theorem after another: in parallel their threads' stacks reach the check's limit on memory.
set_option Elab.async false

/-! ### Ill-formed commands are refused by WellFormed -/

theorem test_lengthError_240_is_ill_formed : (Instr.lengthError 240).wellFormed = false := by decide
theorem test_lengthError_241_is_well_formed : (Instr.lengthError 241).wellFormed = true := by decide
theorem test_choice_after_0_arrivals_is_ill_formed : (Instr.conversionEnd 0 true (some 0)).wellFormed = false := by decide
theorem test_choice_after_24_arrivals_is_ill_formed : (Instr.conversionEnd 0 true (some 24)).wellFormed = false := by decide
theorem test_choice_after_23_arrivals_is_well_formed : (Instr.conversionEnd 0 true (some 23)).wellFormed = true := by decide

/-! ### Small states -/

/-- The part running with its session OPEN, in STANDBY, nothing held. -/
def idlePart : State :=
  { State.reset with phase := .running, session := .opened, link := { Link.reset with rxState := .hunt } }

/-- A request frame of SEQ 7. -/
def request (k : RequestKind) (body : List Byte) : Frame := makeFrame 7 k.code body

/-- `s` with `f` alone in its holding. -/
def holding (f : Frame) (s : State) : State := { s with link := { s.link with holding := [f] } }

def asked (k : RequestKind) (body : List Byte) (s : State) : State := holding (request k body) s

def inRunState (r : RunState) (s : State) : State := { s with engine := { s.engine with runState := r } }

def withEdit (f : FieldRef) (v : Int) (s : State) : State :=
  { s with store := { s.store with staging := s.store.staging ++ [⟨f, v, 1⟩] } }

def withBatch (es : List Edit) (epoch : Word16) (s : State) : State :=
  { s with store := { s.store with batch := some ⟨es, epoch⟩ } }

/-- `s` with fields of its live configuration changed. -/
def withLive (es : List (FieldRef × Int)) (s : State) : State :=
  { s with store := { s.store with live := es.foldl (fun c e => c.put e.2 e.1) s.store.live } }

def withTracker (n : Fin 16) (t : Tracker) (s : State) : State := { s with trackers := s.trackers.set n t }

def withSubs (es : List Subscription) (s : State) : State := { s with subs := es }

def withAlerts (es : List AlertEntry) (s : State) : State := { s with alerts := ⟨es, decide (es ≠ [])⟩ }

def withReport (q : ReportSide) (s : State) : State := { s with report := q }

def receiving (r : RxState) (f : Option RxFrame) (s : State) : State :=
  { s with link := { s.link with rxState := r, rxFrame := f } }

/-- The state after one command. -/
def after (c : Instr) (s : State) : State := goesOn (exec c) s

def replyBodies (s : State) : List (List Byte) := s.link.replies.map (·.body)

/-! ### The manual's figures -/

/-- R146. -/
theorem test_crc_of_nine_bytes : crcOf [0x31, 0x32, 0x33, 0x34, 0x35, 0x36, 0x37, 0x38, 0x39] = 0x29B1 := by decide +kernel

/-- 04, the trimmed mean against a single disturbance. -/
theorem test_estimate_sets_aside_a_disturbance :
    estimate [-813, -809, -820, -811, -2400, -812, -815, -790] = -812 := by decide
theorem test_estimate_of_three : estimate [-813, -809, -2400] = -1340 := by decide

/-- 03, R55: codes 1001, 1002, 1002, 1002. -/
theorem test_reading_rounds_toward_zero : (4007 : Int).tdiv 4 = 1001 ∧ (-4007 : Int).tdiv 4 = -1001 := by decide

/-- 03, forming one channel result (scale 20000, offset −790). -/
theorem test_channel_result_of_the_manual :
    (channelResult { ChannelConfig.defaults 4 with scale := 20000 } 305 7 (-790)
      [⟨4, .valid 120404⟩, ⟨20, .valid 120393⟩] [⟨21, .valid (-813)⟩]) =
      { scanNumber := 305, epoch := 7, measured := some ⟨120398, 121188, 147934⟩, offsetUsed := -790, measureCount := 2,
        referenceCount := 1, flags := ⟨false, false, false, false⟩ } := by decide
theorem test_channel_result_with_a_saturated_reading :
    let r := channelResult { ChannelConfig.defaults 4 with scale := 20000 } 305 7 (-790)
      [⟨4, .valid 120404⟩, ⟨20, .saturated⟩] [⟨21, .valid (-813)⟩]
    r.measured.map (·.corrected) = some 121194 ∧ r.measureCount = 1 ∧ r.flags = ⟨false, true, false, false⟩ := by decide

/-- 04, drift followed through a soft trigger: scans 315 and 317. -/
theorem test_soft_trigger_of_scan_315 :
    ((⟨.holding, -800, [-800, -800, -800, -1100, -1100, -1100, -1100, -1100], 0, none, none, 0⟩ : Tracker).complete
        { ChannelConfig.defaults 4 with zeroMode := .track } 315 [-1100]).record =
      ⟨.following, -875, [-800, -800, -1100, -1100, -1100, -1100, -1100, -1100], 2, some (-1100),
        some ⟨.softThreshold, 315⟩, 1⟩ := by decide
theorem test_last_update_of_scan_317 :
    let r := ((⟨.following, -931, [-800, -1100, -1100, -1100, -1100, -1100, -1100, -1100], 1, none, none, 0⟩ : Tracker).complete
        { ChannelConfig.defaults 4 with zeroMode := .track } 317 [-1100]).record
    r.appliedOffset = -973 ∧ r.state = .holding ∧ r.remaining = 0 := by decide

/-- 04, a channel taken from FIXED to TRACK under a tighter limit: the boundary, and scan 400. -/
theorem test_mode_trigger_after_the_clamp :
    (⟨.off, 500, [], 0, none, none, 0⟩ : Tracker).applied { ChannelConfig.defaults 6 with fixedOffset := 500 }
        { ChannelConfig.defaults 6 with fixedOffset := 500, zeroMode := .track, maxCorrection := 300, followScans := 2 } false 400 =
      ⟨⟨.hardPending, 300, [], 0, none, some ⟨.mode, 400⟩, 1⟩, true⟩ := by decide
theorem test_mode_trigger_resolved :
    ((⟨.hardPending, 300, [], 0, none, none, 1⟩ : Tracker).complete
        { ChannelConfig.defaults 6 with zeroMode := .track, maxCorrection := 300, followScans := 2 } 400 [-120, -130]).record =
      ⟨.following, -125, [-120, -130], 2, some (-125), none, 1⟩ := by decide

/-- 05, one completion, six entries: ids 3 and 11. -/
theorem test_deadband_of_40_is_quiet :
    ((⟨3, 7, .deadband 50, false, false, 0, some 10020, .unknown⟩ : Subscription).evaluate
      ⟨120, 9, some ⟨10075, 10060, 10060⟩, 15, 1, 0, ⟨false, false, false, false⟩⟩).2 = none := by decide
theorem test_limit_reports_above :
    ((⟨11, 9, .limit 0 2000 100, false, false, 0, none, .inside⟩ : Subscription).evaluate
      ⟨120, 9, some ⟨1950, 2200, 2200⟩, -250, 1, 0, ⟨false, false, false, false⟩⟩).2 =
      some ⟨11, 9, 120, 9, ⟨false, false, false, false⟩, some .above, some 2200, none, none⟩ := by decide

/-- A record of one subscription at one scan, for the queue's tests. -/
def plainRecord (scan : Word32) : ReportRecord := ⟨1, 0, scan, 1, ⟨false, false, false, false⟩, none, none, none, none⟩

/-- 06, a stall under DROP_NEWEST. -/
def stalled : ReportSide :=
  { ReportSide.reset with
    queue := List.replicate 47 (.report (plainRecord 80)), counters := ⟨500, 453, 0, 0, 0⟩ }

theorem test_stall_fills_the_tally :
    (([81, 81, 82, 82].map plainRecord).foldl (fun q r => q.arrive r) stalled).tally = some ⟨3, 81, 82⟩ := by decide
theorem test_stall_counts_the_losses :
    (([81, 81, 82, 82].map plainRecord).foldl (fun q r => q.arrive r) stalled).counters = ⟨504, 453, 0, 3, 0⟩ := by decide

/-- 07, R133: REPORT_LOSS created at scan 81 and latched twice more at scan 82. -/
theorem test_latch_counts_occurrences :
    latchInto .reportLoss 82 (latchInto .reportLoss 82 (latchInto .reportLoss 81 [])) = [⟨.reportLoss, 81, 82, 3⟩] := by decide

/-- 01, merging edits into the staging set, cut down to the last old edits. -/
theorem test_later_edits_replace_earlier_ones :
    placeEdits [⟨.device .doze, 1, 0x20⟩, ⟨.channel 3 .gain, 8, 0x21⟩, ⟨.channel 3 .oversample, 16, 0x21⟩]
        [⟨.channel 3 .gain, 16, 0x2E⟩, ⟨.channel 3 .oversample, 8, 0x2E⟩, ⟨.channel 5 .gain, 4, 0x2E⟩, ⟨.channel 5 .gain, 2, 0x2E⟩] =
      [⟨.device .doze, 1, 0x20⟩, ⟨.channel 3 .gain, 16, 0x2E⟩, ⟨.channel 3 .oversample, 8, 0x2E⟩, ⟨.channel 5 .gain, 2, 0x2E⟩] := by
  decide

/-- R6: sixteen slots of five conversions last 16 ms; R3: the default period is 100 ms. -/
theorem test_default_scan_duration : Configuration.defaults.duration = 16000 := by decide
theorem test_default_period : DeviceConfig.defaults.period = 100000 := by decide

/-! ### One or two facts per command -/

/-- 10, a first session: HELLO with DROP_OLDEST and 16 credits; R176. -/
theorem test_hello_reply :
    replyBodies (after .hello (asked .hello [1, 0, 16] { idlePart with session := .closed })) =
      [[0, 0, 0x3D, 0x0B, 0x0B, 0x16, 1, 16, 32, 24, 48, 64, 0]] := by decide
theorem test_hello_credits : (after .hello (asked .hello [1, 0, 16] idlePart)).report.credits = 16 := by decide

/-- R174: OK, OPEN, STANDBY, FREE. -/
theorem test_getState_reply : (replyBodies (after .getState (asked .getState [] idlePart))).map (·.take 4) = [[0, 1, 0, 0]] := by
  decide

/-- R183. -/
theorem test_reset_is_taken : (after .reset (asked .reset [] idlePart)).link.resetTaken = true := by decide

/-- R187, R194: CHANNEL 5 (target 0x15) gain (field 3) 16; a gain of 3 is out of range. -/
theorem test_stage_places_the_edit :
    (after .stage (asked .stage [0x15, 3, 0, 0, 0, 16] idlePart)).store.staging = [⟨.channel 5 .gain, 16, 7⟩] := by decide
theorem test_stage_refuses_a_gain_of_3 :
    replyBodies (after .stage (asked .stage [0x15, 3, 0, 0, 0, 3] idlePart)) = [[6, 0, 0]] := by decide

/-- R173. -/
theorem test_discard_counts : replyBodies (after .discard (asked .discard [] (withEdit (.device .doze) 1 idlePart))) = [[0, 1]] := by
  decide

/-- 01, which check a seal reports. -/
theorem test_seal_reports_the_wrong_state :
    replyBodies (after .seal (asked .seal [] (inRunState .scanning (withEdit (.channel 12 .exciteGroup) 0
      (withEdit (.device .periodCount) 150 (withEdit (.channel 12 .enabled) 0 idlePart)))))) = [[0x0A, 1, 2]] := by decide +kernel
theorem test_seal_reports_the_plan_channel :
    replyBodies (after .seal (asked .seal [] (inRunState .scanning
      (withEdit (.device .periodCount) 150 (withEdit (.channel 12 .enabled) 0 idlePart))))) = [[0x0B, 2, 12]] := by decide +kernel

/-- R179: view LIVE, DEVICE period_count, whose default is 1000. -/
theorem test_readConfig_reply :
    replyBodies (after .readConfig (asked .readConfig [0, 0, 1] idlePart)) =
      [[0, 0, 0, 0, 0, 0, 0, 1, 0, 1, 0, 0, 3, 0xE8, 0, 0]] := by decide +kernel

/-- 10, a first session: START FREE with limit 0. -/
theorem test_start_reply : replyBodies (after .start (asked .start [0, 0, 0] idlePart)) = [[0, 1, 0, 0, 0, 0]] := by decide +kernel
theorem test_start_drivers : (after .start (asked .start [0, 0, 0] idlePart)).drivers = ⟨.on, .on⟩ := by decide +kernel

/-- R42, R189. -/
theorem test_stop_drains : replyBodies (after .stop (asked .stop [] (inRunState .scanning idlePart))) = [[0, 6]] := by decide +kernel

/-- R43, R171. -/
theorem test_abort_reports_the_scan :
    replyBodies (after .abort (asked .abort [] (inRunState .draining idlePart))) = [[0, 0, 1, 0, 0, 0, 0]] := by decide +kernel
theorem test_abort_counts : (after .abort (asked .abort [] (inRunState .draining idlePart))).engine.counters.aborted = 1 := by
  decide +kernel

/-- R94: channels 6 (FIXED) and 5 (TRACK) named, HARD. -/
theorem test_retrack_skips_a_fixed_channel :
    replyBodies (after .retrack (asked .retrack [0, 6, 5] (withLive [(.channel 5 .zeroMode, 1)] idlePart))) = [[0, 1, 5]] := by
  decide +kernel

/-- R182, R181, at the reset values. -/
theorem test_readTracker_reply :
    replyBodies (after .readTracker (asked .readTracker [5] idlePart)) = [[0, 1, 5, 0, 0, 0, 0, 0, 0, 0, 0, 0, 0, 0, 0]] := by
  decide +kernel
theorem test_readResults_reply : replyBodies (after .readResults (asked .readResults [5] idlePart)) = [[0, 1, 5, 0]] := by
  decide +kernel

/-- 10, a first session: id 1, channel 5, DEADBAND d = 20, WITH_OFFSET. -/
theorem test_subscribe_creates_the_entry :
    (after .subscribe (asked .subscribe [1, 5, 1, 0, 0, 0, 20, 0, 0, 0, 0, 0, 0, 0, 0, 2] idlePart)).subs =
      [⟨1, 5, .deadband 20, false, true, 0, none, .unknown⟩] := by decide +kernel

/-- R191. -/
theorem test_unsubscribe_finds_nothing :
    replyBodies (after .unsubscribe (asked .unsubscribe [1] idlePart)) = [[0x0D, 0, 0xFF]] := by decide +kernel

/-- R177. -/
theorem test_listSubscriptions_of_an_empty_table :
    replyBodies (after .listSubscriptions (asked .listSubscriptions [1] idlePart)) = [[0, 0, 0, 0]] := by decide +kernel

/-- R122: 06's GRANT 2; and a grant past 255. -/
theorem test_grant_adds : (after .grant (asked .grant [2] idlePart)).report.credits = 2 := by decide +kernel
theorem test_grant_stops_at_255 :
    (after .grant (asked .grant [255] (withReport { ReportSide.reset with credits := 10 } idlePart))).report.credits = 255 := by
  decide +kernel

/-- The alert set of 07's acknowledgement meeting a completion. -/
def twoAlerts : State := withAlerts [⟨.reportLoss, 81, 82, 3⟩, ⟨.inputFault 9, 60, 82, 23⟩] idlePart

theorem test_ackAlerts_reply :
    replyBodies (after .ackAlerts (asked .ackAlerts [1] twoAlerts)) = [[0, 2, 2, 0, 3, 15, 0, 23, 0]] := by decide +kernel
theorem test_ackAlerts_in_part_renews_the_notice :
    (after .ackAlerts (asked .ackAlerts [0, 2] twoAlerts)).link.alertNotice = true := by decide +kernel

/-- R178: from key index 3 onward. -/
theorem test_readAlerts_reply :
    replyBodies (after .readAlerts (asked .readAlerts [3] twoAlerts)) =
      [[0, 2, 1, 0xFF, 1, 15, 0, 0, 0, 60, 0, 0, 0, 82, 0, 23]] := by decide +kernel

/-- R180: the body is 1 + 19 × 4 = 77 bytes. -/
theorem test_readCounters_length :
    (replyBodies (after .readCounters (asked .readCounters [] idlePart))).map (·.length) = [77] := by decide +kernel

/-- R168. -/
theorem test_unknownKind_reply :
    (after .unknownKind (holding (makeFrame 7 0x15 []) idlePart)).link.replies = [⟨7, 0xFF, [2, 0, 0xFF]⟩] := by decide +kernel

/-- R157: the same frame again, its first reply gone. -/
theorem test_duplicate_is_counted :
    (after .duplicate (holding (request .grant [2]) (after .grant (asked .grant [2] idlePart)))).link.counters.duplicates = 1 ∧
      (after .duplicate (holding (request .grant [2]) (after .grant (asked .grant [2] idlePart)))).report.credits = 2 := by
  decide +kernel

/-- R150: a GRANT of 2 with its CRC, byte after byte; and a wrong last byte. -/
theorem test_frame_is_held : (receiveAll (request .grant [2]).wire idlePart).link.holding = [request .grant [2]] := by
  decide +kernel
theorem test_frameArrival_counts_a_crc_error :
    (after (.frameArrival 0) (receiving .check (some ⟨some 0, some 7, some 2, [], 0x1234, some 0x12⟩) idlePart)).link.counters.crcErrors =
      1 := by decide +kernel

/-- R149, R164. -/
theorem test_lengthError_latches :
    (after (.lengthError 241) (receiving .header (some .start) idlePart)).alerts.entries = [⟨.linkError, 0, 0, 1⟩] := by decide +kernel
theorem test_ill_formed_lengthError_has_no_effect :
    (after (.lengthError 240) (receiving .header (some .start) idlePart)).link.counters.lengthErrors = 0 := by decide +kernel

/-- R151. -/
theorem test_characterTimeout_counts :
    (after .characterTimeout (receiving .sync none idlePart)).link.counters.charTimeouts = 1 := by decide +kernel

/-- R152: the holding is discarded, and one low period makes one break. -/
theorem test_break_discards_the_holding :
    (after (.breakDetected .low) (asked .grant [2] idlePart)).link.holding = [] := by decide +kernel
theorem test_break_is_counted_once :
    (after (.breakDetected .low) (after (.breakDetected .low) idlePart)).link.counters.breaks = 1 := by decide +kernel
theorem test_breakEnd : (after .breakEnd (after (.breakDetected .low) idlePart)).link.rxdLow = false := by decide +kernel

/-- DOZE as R45 leaves it. -/
def dozing : State := receiving .wakeListen none (inRunState .doze idlePart)

/-- R46, R153. -/
theorem test_wake_waits : (after .wake dozing).engine.runState = .waiting ∧ (after .wake dozing).drivers = ⟨.on, .on⟩ := by
  decide +kernel
/-- R165, a start bit before DOZE entry; R153 with R152, no falling edge while a break holds RXD low. -/
theorem test_wake_only_at_a_start_bit :
    (after .dozeEntry (after .wake (withLive [(.device .doze, 1)] (inRunState .waiting idlePart)))).engine.runState = .waiting ∧
      (after .wake { dozing with link := { dozing.link with rxdLow := true } }).engine.runState = .doze := by decide +kernel
theorem test_wakeQuietEnd_hunts : (after .wakeQuietEnd (after .wake dozing)).link.rxState = .hunt := by decide +kernel

/-- 08, one idle moment: 5 REPORT entries, credits 3, notice number 17. -/
def idleMoment : State :=
  { idlePart with
    report := { ReportSide.reset with queue := List.replicate 5 (.report (plainRecord 3)), credits := 3 }
    link := { idlePart.link with noticeSeq := 17 } }

theorem test_arbiter_sends_a_report :
    (after .arbiterChoice idleMoment).report.credits = 2 ∧ (after .arbiterChoice idleMoment).report.queue.length = 4 ∧
      (after .arbiterChoice idleMoment).link.noticeSeq = 18 := by decide +kernel

/-- R163: the reset after the RESET reply. -/
theorem test_transmitEnd_resets :
    (after (.transmitEnd .high) (after .arbiterChoice (after .reset (asked .reset [] idlePart)))).link.resetCause = .request := by
  decide +kernel
theorem test_transmitEnd_idles : (after (.transmitEnd .high) (after .arbiterChoice idleMoment)).link.transmitter = .idle := by
  decide +kernel

/-- R162, R184. -/
theorem test_powerOn_with_the_line_low : (after (.powerOn .low .high) idlePart).phase = .inReset .power := by decide +kernel
theorem test_resetNLow : (after .resetNLow idlePart).phase = .inReset .line := by decide +kernel
theorem test_resetNHigh_samples_rate :
    (after (.resetNHigh .high) (after .resetNLow idlePart)).link.rate = .bps921600 ∧
      (after (.resetNHigh .high) (after .resetNLow idlePart)).link.resetCause = .line := by decide +kernel
theorem test_startUpEnd_places_ready : (after .startUpEnd State.reset).link.readyNotice = some .power := by decide +kernel

/-- 10, a first session: START at time 0; scan 1 starts 20 ms later, the timer's period the default 100 ms. -/
def firstScan : State := after .armingSettleEnd (after .start (asked .start [0, 0, 0] idlePart))

theorem test_armingSettleEnd_starts_the_scan :
    firstScan.engine.runState = .scanning ∧ firstScan.engine.scanCounter = 1 ∧
      firstScan.engine.timer = .running 100000 120000 := by decide +kernel
theorem test_first_conversion_discards : firstScan.frontEnd.slot.map (·.phase) = some .discard := by decide +kernel

/-- R33. -/
theorem test_timerExpiry_overruns : (after .timerExpiry firstScan).engine.counters.overruns = 1 := by decide +kernel
theorem test_timerExpiry_keeps_the_grid : (after .timerExpiry firstScan).engine.timer = .running 100000 220000 := by decide +kernel

/-- R34: the default edge is RISING and the default width 5. -/
theorem test_trigEdge_times : (after (.trigEdge .rising) idlePart).engine.qualifier = .timing .rising 5 := by decide +kernel
theorem test_trigEdge_returns : (after (.trigEdge .falling) (after (.trigEdge .rising) idlePart)).engine.qualifier = .idle := by
  decide +kernel

/-- R35: FREE ignores a trigger; TRIGGERED in SCANNING misses it. -/
theorem test_trigger_is_ignored_in_free :
    (after .trigger (after (.trigEdge .rising) firstScan)).engine.counters.triggersMissed = 0 := by decide +kernel
theorem test_trigger_is_missed :
    (after .trigger (after (.trigEdge .rising) { firstScan with engine := { firstScan.engine with mode := .triggered } })).engine.counters.triggersMissed =
      1 := by decide +kernel

/-- R46, R47: an expiry in DOZE, then the wake settle. -/
theorem test_wakeSettleEnd_starts_the_scan :
    (after .wakeSettleEnd (after .timerExpiry
      { dozing with engine := { dozing.engine with timer := .running 100000 100000 } })).engine.runState = .scanning := by
  decide +kernel

/-- R38. -/
theorem test_sync_goes_high : firstScan.engine.sync = .high := by decide +kernel
theorem test_syncPulseEnd : (after .syncPulseEnd firstScan).engine.sync = .low := by decide +kernel

/-- A scan whose plan is one MEASURE slot with its last counted conversion in flight (03, codes 1001, 1002, 1002, 1002). -/
def lastConversion : State :=
  { withLive [(.device .planLength, 1)] firstScan with
    frontEnd :=
      { firstScan.frontEnd with slot := some ⟨0, .measure, 0, 1, 4, .a, .count, 1, 3005, false, false, 21000⟩ } }

theorem test_conversionEnd_completes_the_scan :
    ((after (.conversionEnd 1002 true none) lastConversion).frontEnd.results[0]).map (·.measured) =
      some (some ⟨1001, 1001, 1001⟩) := by decide +kernel
theorem test_conversionEnd_waits : (after (.conversionEnd 1002 true none) lastConversion).engine.runState = .waiting := by
  decide +kernel

/-- R45. -/
theorem test_dozeEntry_listens :
    (after .dozeEntry (withLive [(.device .doze, 1)] (inRunState .waiting idlePart))).link.rxState = .wakeListen := by decide +kernel
theorem test_dozeEntry_needs_the_field : (after .dozeEntry (inRunState .waiting idlePart)).engine.runState = .waiting := by
  decide +kernel

/-- R60. -/
theorem test_overcurrent_trips :
    (after (.overcurrent .b) firstScan).drivers = ⟨.on, .tripped⟩ ∧
      (after (.overcurrent .b) firstScan).alerts.entries = [⟨.excitationTrip .b, 1, 1, 1⟩] := by decide +kernel
theorem test_overcurrent_needs_the_driver_on : (after (.overcurrent .b) idlePart).alerts.entries = [] := by decide +kernel

/-- R148, R143. -/
theorem test_sync_byte : (after (.characterReceived (.byte 0xA5)) idlePart).link.rxState = .sync := by decide +kernel
theorem test_late_framing_error :
    (after (.characterReceived (.framingError true)) (receiving .sync none idlePart)).link.counters.charTimeouts = 1 := by
  decide +kernel

/-- The step takes the front command (log entry 3). -/
theorem test_step_takes_the_front_command : step { State.reset with pending := [.startUpEnd] } = .next (after .startUpEnd State.reset) := by
  rfl

/-! ### Witnesses: states and operands that meet the hypotheses of the statements

Each is named after the statement it serves; a statement of several clauses has one for each, at the edges of its ranges. -/

/-- The session is OPEN, the part runs, and the executor has nothing to do. -/
structure Ready (s : State) : Prop where
  running : s.phase = .running
  opened : s.session = .opened
  room : s.link.replies = []
  clear : s.link.resetTaken = false
  memory : s.link.memory = none

theorem ready_idlePart : Ready idlePart := ⟨rfl, rfl, rfl, rfl, rfl⟩

theorem takes_holding {s : State} (h : Ready s) (f : Frame) : Takes f (holding f s) :=
  ⟨h.running, rfl, by simp [holding, h.room], h.clear⟩

theorem executes_holding {s : State} (h : Ready s) (f : Frame) : Executes f (holding f s) :=
  ⟨takes_holding h f, by simp [holding, h.memory]⟩

theorem admits_asked {k : RequestKind} {body : List Byte} {s : State} (h : Ready s) (hl : k.lengthOk body = true) :
    Admits k (request k body) (asked k body s) :=
  ⟨executes_holding h _, rfl, .inl h.opened, (lengthOk_iff k body).1 hl⟩

theorem witness_StepRunsFrontCommand : State.reset.pending = [] := rfl

theorem witness_ResetEvents :
    idlePart.phase = .running ∧ State.reset.phase = .startUp ∧ (after .resetNLow idlePart).phase = .inReset .line ∧
      (∀ cause, idlePart.phase ≠ .inReset cause) ∧ idlePart.phase ≠ .startUp :=
  ⟨rfl, rfl, rfl, nofun, nofun⟩

/-- Credits 255 and 256, policies 1 and 2. -/
theorem witness_HelloOpensSession :
    Admits .hello (request .hello [1, 0, 255]) (asked .hello [1, 0, 255] idlePart) ∧
      256 * (0 : Byte).toNat + (255 : Byte).toNat ≤ 255 ∧
      Admits .hello (request .hello [2, 0, 0]) (asked .hello [2, 0, 0] idlePart) ∧ 2 ≤ (2 : Byte).toNat ∧
      Admits .hello (request .hello [1, 1, 0]) (asked .hello [1, 1, 0] idlePart) ∧ (1 : Byte).toNat ≤ 1 ∧
      256 ≤ 256 * (1 : Byte).toNat + (0 : Byte).toNat :=
  ⟨admits_asked ready_idlePart rfl, by decide, admits_asked ready_idlePart rfl, by decide, admits_asked ready_idlePart rfl,
    by decide, by decide⟩

theorem witness_StateAndCountersReported :
    Admits .getState (request .getState []) (asked .getState [] idlePart) ∧
      Admits .readCounters (request .readCounters []) (asked .readCounters [] idlePart) :=
  ⟨admits_asked ready_idlePart rfl, admits_asked ready_idlePart rfl⟩

/-- RESET in flight and a GET_STATE reply in flight. -/
def resetTaken : State := after .reset (asked .reset [] idlePart)

theorem witness_ResetRequestTaken :
    Admits .reset (request .reset []) (asked .reset [] idlePart) ∧
      (resetTaken.link.resetTaken = true ∧ (after .arbiterChoice resetTaken).phase = .running) ∧
      ((after .arbiterChoice resetTaken).link.transmitter = .sending (makeFrame 7 0x83 [0x00]) ∧ IsResetReply 0x83 [0x00]) ∧
      (after .arbiterChoice idleMoment).link.transmitter ≠ .idle ∧ (after .arbiterChoice idleMoment).link.resetTaken = false :=
  ⟨admits_asked ready_idlePart rfl, by decide +kernel, ⟨by decide +kernel, rfl, rfl⟩, by decide +kernel, by decide +kernel⟩

/-- Edits of gain, one for each factor named. -/
def gainEdits (targets : List (Fin 16)) : List Edit := targets.map fun n => ⟨.channel n .gain, 16, 7⟩

/-- A staging set of `n` edits of distinct fields, by channel and field. -/
def manyStaged (n : Nat) : State :=
  { idlePart with
    store :=
      { idlePart.store with
        staging :=
          (((List.finRange 16).flatMap fun c =>
            [ChannelField.fixedOffset, .maxCorrection, .weight, .followScans].map fun f => (⟨.channel c f, 1, 1⟩ : Edit)).take n) } }

theorem ready_manyStaged (n : Nat) : Ready (manyStaged n) := ⟨rfl, rfl, rfl, rfl, rfl⟩

/-- 63 edits and one make 64; 64 and one make 65. -/
theorem witness_StageReplacesAndAppends :
    (request .stage ((gainEdits [3]).flatMap Edit.descriptor)).body = (gainEdits [3]).flatMap Edit.descriptor ∧
      (∀ e ∈ gainEdits [3], e.field.inRange e.value = true ∧ e.seq = 7) ∧
      Admits .stage (request .stage ((gainEdits [3]).flatMap Edit.descriptor))
        (asked .stage ((gainEdits [3]).flatMap Edit.descriptor) (manyStaged 63)) ∧
      (stagedAfter (manyStaged 63).store.staging (gainEdits [3])).length = 64 ∧
      Admits .stage (request .stage ((gainEdits [3]).flatMap Edit.descriptor))
        (asked .stage ((gainEdits [3]).flatMap Edit.descriptor) (manyStaged 64)) ∧
      (stagedAfter (manyStaged 64).store.staging (gainEdits [3])).length = 65 :=
  ⟨rfl, by decide, admits_asked (ready_manyStaged 63) rfl, by decide +kernel, admits_asked (ready_manyStaged 64) rfl,
    by decide +kernel⟩

/-- Target 0x60 names nothing, field 0x10 of a CHANNEL names nothing, weight 17 is out of range; each after one good edit. -/
theorem witness_StageRefusals :
    let good := (gainEdits [3]).flatMap Edit.descriptor
    (∀ e ∈ gainEdits [3], e.field.inRange e.value = true) ∧
      (Admits .stage (request .stage (good ++ [0x60, 1, 0, 0, 0, 1])) (asked .stage (good ++ [0x60, 1, 0, 0, 0, 1]) idlePart) ∧
        ∀ target : Target, target.code ≠ (0x60 : Byte).toNat) ∧
      (Admits .stage (request .stage (good ++ [0x10, 0x10, 0, 0, 0, 1]))
          (asked .stage (good ++ [0x10, 0x10, 0, 0, 0, 1]) idlePart) ∧
        (Target.channel 0).code = (0x10 : Byte).toNat ∧
        ∀ field : FieldRef, field.target = .channel 0 → field.id ≠ (0x10 : Byte).toNat) ∧
      (Admits .stage (request .stage (good ++ [0x10, 0x0B, 0, 0, 0, 17]))
          (asked .stage (good ++ [0x10, 0x0B, 0, 0, 0, 17]) idlePart) ∧
        (FieldRef.channel 0 .weight).target = .channel 0 ∧ (FieldRef.channel 0 .weight).id = (0x0B : Byte).toNat ∧
        (FieldRef.channel 0 .weight).inRange (0#8 ++ 0#8 ++ 0#8 ++ 17#8).toInt = false) :=
  ⟨by decide, ⟨admits_asked ready_idlePart rfl, targetOfCode_eq_none.1 rfl⟩,
    ⟨admits_asked ready_idlePart rfl, rfl, fieldOfId_eq_none.1 (by decide)⟩,
    ⟨admits_asked ready_idlePart rfl, rfl, rfl, by decide⟩⟩

theorem witness_DiscardEmptiesStaging : Admits .discard (request .discard []) (asked .discard [] (manyStaged 64)) :=
  admits_asked (ready_manyStaged 64) rfl

/-- One standby-only edit and one that is not. -/
def stagedLevel : State := withEdit (.device .exciteALevel) 3 idlePart
def stagedPeriod : State := inRunState .scanning (withEdit (.device .periodCount) 500 idlePart)

theorem ready_withEdit {f : FieldRef} {v : Int} {s : State} (h : Ready s) : Ready (withEdit f v s) :=
  ⟨h.running, h.opened, h.room, h.clear, h.memory⟩

theorem ready_inRunState {r : RunState} {s : State} (h : Ready s) : Ready (inRunState r s) :=
  ⟨h.running, h.opened, h.room, h.clear, h.memory⟩

theorem ready_withBatch {es : List Edit} {e : Word16} {s : State} (h : Ready s) : Ready (withBatch es e s) :=
  ⟨h.running, h.opened, h.room, h.clear, h.memory⟩

theorem ready_withLive {es : List (FieldRef × Int)} {s : State} (h : Ready s) : Ready (withLive es s) :=
  ⟨h.running, h.opened, h.room, h.clear, h.memory⟩

theorem witness_SealSucceeds :
    (Admits .seal (request .seal []) (asked .seal [] stagedLevel) ∧ stagedLevel.store.staging ≠ [] ∧
        stagedLevel.store.batch = none ∧ PassesChecks (stagedLevel.store.live.applyEdits stagedLevel.store.staging) ∧
        stagedLevel.engine.runState = .standby) ∧
      (Admits .seal (request .seal []) (asked .seal [] stagedPeriod) ∧ stagedPeriod.store.staging ≠ [] ∧
        stagedPeriod.store.batch = none ∧ PassesChecks (stagedPeriod.store.live.applyEdits stagedPeriod.store.staging) ∧
        stagedPeriod.engine.runState ≠ .standby ∧ ∀ e ∈ stagedPeriod.store.staging, e.field.standbyOnly = false) :=
  ⟨⟨admits_asked (ready_withEdit ready_idlePart) rfl, by decide, rfl, (consistencyFault_eq_none _).1 (by decide +kernel), rfl⟩,
    ⟨admits_asked (ready_inRunState (ready_withEdit ready_idlePart)) rfl, by decide, rfl,
      (consistencyFault_eq_none _).1 (by decide +kernel), by decide, by decide⟩⟩

/-- 01, which check a seal reports, and the other seal checks. -/
def badSlot : State := withEdit (.channel 12 .enabled) 0 idlePart
def uncovered : State := withEdit (.channel 15 .zeroMode) 1 idlePart
def badThresholds : State := withEdit (.channel 0 .softThreshold) 4096 idlePart
def badFixedOffset : State := withEdit (.channel 0 .fixedOffset) 65536 idlePart
def unexcited : State := withEdit (.device .exciteBLevel) 0 idlePart
def tooLong : State := withEdit (.device .periodCount) 160 idlePart

theorem failsAt_of_consistencyFault {c : Configuration} {k i : Nat} (h : consistencyFault c = some ⟨.inconsistent, k, i⟩) :
    c.FailsAt k i ∧ ∀ lower j, lower < k → ¬ c.FailsAt lower j := by
  have hn : ¬ PassesChecks c := fun hp => by rw [(consistencyFault_eq_none c).2 hp] at h; cases h
  rw [passesChecks_iff] at hn
  push Not at hn
  obtain ⟨k', i', hf⟩ := hn
  induction k' using Nat.strong_induction_on generalizing i' with
  | _ k' ih =>
    by_cases hl : ∃ l j, l < k' ∧ c.FailsAt l j
    · obtain ⟨l, j, hlt, hf'⟩ := hl
      exact ih l hlt j hf'
    · push Not at hl
      have := consistencyFault_of_first hf hl
      rw [h] at this
      simp only [Option.some.injEq, Rejection.mk.injEq, true_and] at this
      obtain ⟨rfl, rfl⟩ := this
      exact ⟨hf, hl⟩

theorem witness_SealRefusals :
    Admits .seal (request .seal []) (asked .seal [] idlePart) ∧
      (Admits .seal (request .seal []) (asked .seal [] (withBatch [] 1 stagedLevel)) ∧
        (withBatch [] 1 stagedLevel).store.batch ≠ none) ∧
      (Admits .seal (request .seal []) (asked .seal [] (inRunState .draining stagedLevel)) ∧
        (inRunState .draining stagedLevel).store.staging = [] ++ ⟨.device .exciteALevel, 3, 1⟩ :: [] ∧
        (FieldRef.device .exciteALevel).standbyOnly = true) ∧
      ∀ x ∈ [(badSlot, 2, 12), (uncovered, 3, 15), (badThresholds, 4, 0), (badFixedOffset, 5, 0), (unexcited, 6, 8),
          (tooLong, 7, 255)],
        Admits .seal (request .seal []) (asked .seal [] x.1) ∧ x.1.store.staging ≠ [] ∧ x.1.store.batch = none ∧
          x.1.engine.runState = .standby ∧
          (x.1.store.live.applyEdits x.1.store.staging).FailsAt x.2.1 x.2.2 ∧
          ∀ lower i, lower < x.2.1 → ¬ (x.1.store.live.applyEdits x.1.store.staging).FailsAt lower i := by
  refine ⟨admits_asked ready_idlePart rfl,
    ⟨admits_asked (ready_withBatch (ready_withEdit ready_idlePart)) rfl, by decide⟩,
    ⟨admits_asked (ready_inRunState (ready_withEdit ready_idlePart)) rfl, rfl, rfl⟩, ?_⟩
  simp only [List.forall_mem_cons, List.not_mem_nil, false_implies, implies_true, and_true]
  refine ⟨?_, ?_, ?_, ?_, ?_, ?_⟩ <;>
    exact ⟨admits_asked (ready_withEdit ready_idlePart) rfl, by decide, rfl, rfl,
      failsAt_of_consistencyFault (by decide +kernel)⟩

/-- Items of 24 fields (one CHANNEL and three SLOTs) and of 25 (DEVICE and one CHANNEL). -/
def items24 : List ConfigItem := [.whole (.channel 0), .whole (.slot 0), .whole (.slot 1), .whole (.slot 31)]
def items25 : List ConfigItem := [.whole .device, .whole (.channel 15)]

theorem witness_ReadConfigShowsView :
    (Admits .readConfig (request .readConfig (View.sealed.code :: items24.flatMap ConfigItem.bytes))
        (asked .readConfig (View.sealed.code :: items24.flatMap ConfigItem.bytes) (withBatch [] 1 idlePart)) ∧
      (items24.flatMap ConfigItem.fields).length = 24 ∧ (withBatch [] 1 idlePart).store.batch ≠ none) ∧
      (Admits .readConfig (request .readConfig (View.live.code :: items25.flatMap ConfigItem.bytes))
        (asked .readConfig (View.live.code :: items25.flatMap ConfigItem.bytes) idlePart) ∧
        (items25.flatMap ConfigItem.fields).length = 25) ∧
      (Admits .readConfig (request .readConfig (View.sealed.code :: items24.flatMap ConfigItem.bytes))
        (asked .readConfig (View.sealed.code :: items24.flatMap ConfigItem.bytes) idlePart) ∧ idlePart.store.batch = none) ∧
      (Admits .readConfig (request .readConfig [3, 0, 1]) (asked .readConfig [3, 0, 1] idlePart) ∧ 3 ≤ (3 : Byte).toNat) ∧
      (Admits .readConfig (request .readConfig [0, 0x60, 0]) (asked .readConfig [0, 0x60, 0] idlePart) ∧
        ∀ target : Target, target.code ≠ (0x60 : Byte).toNat) ∧
      (Admits .readConfig (request .readConfig [0, 0x40, 4]) (asked .readConfig [0, 0x40, 4] idlePart) ∧
        (Target.slot 0).code = (0x40 : Byte).toNat ∧ (4 : Byte) ≠ 0 ∧
        ∀ field : FieldRef, field.target = .slot 0 → field.id ≠ (4 : Byte).toNat) :=
  ⟨⟨admits_asked (ready_withBatch ready_idlePart) rfl, by decide, by decide⟩,
    ⟨admits_asked ready_idlePart rfl, by decide⟩, ⟨admits_asked ready_idlePart rfl, rfl⟩,
    ⟨admits_asked ready_idlePart rfl, by decide⟩, ⟨admits_asked ready_idlePart rfl, targetOfCode_eq_none.1 rfl⟩,
    ⟨admits_asked ready_idlePart rfl, rfl, by decide, fieldOfId_eq_none.1 (by decide)⟩⟩

theorem witness_StartBeginsRun :
    (Admits .start (request .start [1, 0xFF, 0xFF]) (asked .start [1, 0xFF, 0xFF] idlePart) ∧
        idlePart.engine.runState = .standby) ∧
      Admits .start (request .start [2, 0, 0]) (asked .start [2, 0, 0] idlePart) ∧
      (Admits .start (request .start [1, 0, 0]) (asked .start [1, 0, 0] (inRunState .draining idlePart)) ∧
        (inRunState .draining idlePart).engine.runState ≠ .standby) :=
  ⟨⟨admits_asked ready_idlePart rfl, rfl⟩, admits_asked ready_idlePart rfl,
    ⟨admits_asked (ready_inRunState ready_idlePart) rfl, by decide⟩⟩

theorem witness_StopAndAbort :
    idlePart.store.batch = none ∧ (withBatch [] 1 idlePart).store.batch = some ⟨[], 1⟩ ∧
      ∀ r ∈ [RunState.scanning, .draining, .standby, .arming, .waiting, .doze, .settling],
        Admits .stop (request .stop []) (asked .stop [] (inRunState r idlePart)) ∧
          Admits .abort (request .abort []) (asked .abort [] (inRunState r idlePart)) ∧
          (inRunState r idlePart).engine.runState = r :=
  ⟨rfl, rfl, fun _ _ => ⟨admits_asked (ready_inRunState ready_idlePart) rfl,
    admits_asked (ready_inRunState ready_idlePart) rfl, rfl⟩⟩

/-- The defaults of R4 hold a record at its reset values (R69). -/
theorem recordLaw_reset (n : Fin 16) : RecordLaw (ChannelConfig.defaults n) .reset := by
  constructor <;> simp [TrackerStateLaw, ChannelConfig.defaults, Tracker.reset]

theorem trackerLaw_of_defaults {s : State} (hc : s.store.live = .defaults) (ht : s.trackers = .replicate 16 .reset) :
    TrackerLaw s := by
  intro n
  rw [hc, ht]
  simpa [Configuration.defaults] using recordLaw_reset n

theorem witness_RetrackTakesManualTriggers :
    (Admits .retrack (request .retrack [0, 15]) (asked .retrack [0, 15] (withLive [(.channel 15 .zeroMode, 1)] idlePart)) ∧
        (withLive [(.channel 15 .zeroMode, 1)] idlePart).store.live.channels[(15 : Fin 16)].zeroMode = .track) ∧
      (Admits .retrack (request .retrack [1, 0]) (asked .retrack [1, 0] idlePart) ∧ TrackerLaw (asked .retrack [1, 0] idlePart)) ∧
      Admits .retrack (request .retrack [2, 0]) (asked .retrack [2, 0] idlePart) ∧
      Admits .retrack (request .retrack [1, 15, 16]) (asked .retrack [1, 15, 16] idlePart) :=
  ⟨⟨admits_asked (ready_withLive ready_idlePart) rfl, by decide +kernel⟩,
    ⟨admits_asked ready_idlePart rfl, trackerLaw_of_defaults rfl rfl⟩,
    admits_asked ready_idlePart rfl, admits_asked ready_idlePart rfl⟩

theorem witness_TrackerAndResultsRead :
    Admits .readTracker (request .readTracker [0, 15, 0, 15]) (asked .readTracker [0, 15, 0, 15] idlePart) ∧
      Admits .readResults (request .readResults [0, 1, 2, 3, 4, 5, 6, 15]) (asked .readResults [0, 1, 2, 3, 4, 5, 6, 15] idlePart) ∧
      Admits .readTracker (request .readTracker [15, 16]) (asked .readTracker [15, 16] idlePart) ∧
      Admits .readResults (request .readResults [15, 16]) (asked .readResults [15, 16] idlePart) :=
  ⟨admits_asked ready_idlePart rfl, admits_asked ready_idlePart rfl, admits_asked ready_idlePart rfl,
    admits_asked ready_idlePart rfl⟩

/-- `n` EVERY entries of ids 1 to n. -/
def everyEntries (n : Nat) : List Subscription :=
  (List.range n).map fun i => ⟨i + 1, 0, .every 1000, false, false, 0, none, .unknown⟩

theorem ready_withSubs {es : List Subscription} {s : State} (h : Ready s) : Ready (withSubs es s) :=
  ⟨h.running, h.opened, h.room, h.clear, h.memory⟩

theorem subscriptionsLaw_everyEntries : SubscriptionsLaw (everyEntries 23) where
  sorted := by decide
  ids := by decide
  conditions := fun e he => by
    obtain ⟨i, -, rfl⟩ := List.mem_map.1 he
    exact ⟨by decide, by decide⟩
  evaluation := fun e he => by
    obtain ⟨i, -, rfl⟩ := List.mem_map.1 he
    exact ⟨Nat.zero_lt_succ 999, rfl, rfl⟩

/-- A SUBSCRIBE body. -/
def subscribeBody (id channel kind : Byte) (p1 p2 p3 : Int) (flags : Byte) : List Byte :=
  [id, channel, kind] ++ bytesOfInt p1 ++ bytesOfInt p2 ++ bytesOfInt p3 ++ [flags]

/-- The table one short of full; id 24, LIMIT at the ends of its ranges. -/
theorem witness_SubscribeCreatesEntry :
    Admits .subscribe (request .subscribe (subscribeBody 24 15 2 (-8388607) 8388607 8388607 3))
        (asked .subscribe (subscribeBody 24 15 2 (-8388607) 8388607 8388607 3) (withSubs (everyEntries 23) idlePart)) ∧
      FourBytes (-8388607) ∧ FourBytes 8388607 ∧
      NamesCondition 2 (-8388607) 8388607 8388607 (.limit (-8388607) 8388607 8388607) ∧
      ConditionLaw (.limit (-8388607) 8388607 8388607) ∧ 1 ≤ (24 : Byte).toNat ∧ (24 : Byte).toNat ≤ 24 ∧ (3 : Byte).toNat ≤ 3 ∧
      (everyEntries 23).length < 24 ∧ (∀ e ∈ everyEntries 23, e.id ≠ (24 : Byte).toNat) ∧ SubscriptionsLaw (everyEntries 23) :=
  ⟨admits_asked (ready_withSubs ready_idlePart) rfl, by simp [FourBytes], by simp [FourBytes], ⟨rfl, rfl, rfl, rfl⟩,
    by simp [ConditionLaw, ValueRange], by decide, by decide, by decide, by decide, by decide, subscriptionsLaw_everyEntries⟩

theorem admits_subscribe {id channel kind flags : Byte} {p1 p2 p3 : Int} {s : State} (h : Ready s) :
    Admits .subscribe (request .subscribe (subscribeBody id channel kind p1 p2 p3 flags))
      (asked .subscribe (subscribeBody id channel kind p1 p2 p3 flags) s) := admits_asked h rfl

/-- Ids 0 and 25, channel 16, kind 3, n = 0 and 1001, flags 4, a full table and an id in use. -/
theorem witness_SubscribeRefusals :
    (∀ id ∈ [(0 : Byte), 25], Admits .subscribe (request .subscribe (subscribeBody id 0 0 1 0 0 0))
        (asked .subscribe (subscribeBody id 0 0 1 0 0 0) idlePart)) ∧
      Admits .subscribe (request .subscribe (subscribeBody 1 16 0 1 0 0 0)) (asked .subscribe (subscribeBody 1 16 0 1 0 0 0) idlePart) ∧
      Admits .subscribe (request .subscribe (subscribeBody 24 15 3 1 0 0 0)) (asked .subscribe (subscribeBody 24 15 3 1 0 0 0) idlePart) ∧
      (∀ n ∈ [(0 : Int), 1001], Admits .subscribe (request .subscribe (subscribeBody 24 15 0 n 0 0 0))
          (asked .subscribe (subscribeBody 24 15 0 n 0 0 0) idlePart) ∧ FourBytes n ∧
        ∀ c, NamesCondition 0 n 0 0 c → ¬ ConditionLaw c) ∧
      (Admits .subscribe (request .subscribe (subscribeBody 24 15 0 1000 0 0 4))
          (asked .subscribe (subscribeBody 24 15 0 1000 0 0 4) idlePart) ∧
        NamesCondition 0 1000 0 0 (.every 1000) ∧ ConditionLaw (.every 1000) ∧ 4 ≤ (4 : Byte).toNat) ∧
      (Admits .subscribe (request .subscribe (subscribeBody 24 15 0 1000 0 0 3))
          (asked .subscribe (subscribeBody 24 15 0 1000 0 0 3) (withSubs (everyEntries 24) idlePart)) ∧
        24 ≤ (everyEntries 24).length) ∧
      (Admits .subscribe (request .subscribe (subscribeBody 23 15 0 1000 0 0 3))
          (asked .subscribe (subscribeBody 23 15 0 1000 0 0 3) (withSubs (everyEntries 23) idlePart)) ∧
        (everyEntries 23).length < 24 ∧ ∃ e ∈ everyEntries 23, e.id = (23 : Byte).toNat) := by
  refine ⟨fun _ _ => admits_subscribe ready_idlePart, admits_subscribe ready_idlePart, admits_subscribe ready_idlePart,
    fun n hn => ⟨admits_subscribe ready_idlePart, ?_, ?_⟩, ⟨admits_subscribe ready_idlePart, ⟨rfl, rfl⟩, ⟨by decide, by decide⟩, by decide⟩,
    ⟨admits_subscribe (ready_withSubs ready_idlePart), by decide⟩,
    ⟨admits_subscribe (ready_withSubs ready_idlePart), by decide, by decide⟩⟩
  · simp only [List.mem_cons, List.not_mem_nil, or_false] at hn
    rcases hn with rfl | rfl <;> simp [FourBytes]
  · simp only [List.mem_cons, List.not_mem_nil, or_false] at hn
    rintro (m | d | _) hc <;> simp only [NamesCondition] at hc <;> simp only [ConditionLaw]
    · rcases hn with rfl | rfl <;> omega
    · simp at hc
    · simp at hc

/-- Id 23 present, id 24 absent; eight entries listed with one beyond them, and none beyond; first ids 0 and 25. -/
theorem witness_UnsubscribeAndList :
    (Admits .unsubscribe (request .unsubscribe [23]) (asked .unsubscribe [23] (withSubs (everyEntries 23) idlePart)) ∧
        (∃ e ∈ everyEntries 23, e.id = (23 : Byte).toNat)) ∧
      (Admits .unsubscribe (request .unsubscribe [24]) (asked .unsubscribe [24] (withSubs (everyEntries 23) idlePart)) ∧
        ∀ e ∈ everyEntries 23, e.id ≠ (24 : Byte).toNat) ∧
      (Admits .listSubscriptions (request .listSubscriptions [1])
          (asked .listSubscriptions [1] (withSubs (everyEntries 9) idlePart)) ∧
        everyEntries 9 = [] ++ (everyEntries 9).take 8 ++ (everyEntries 9).drop 8 ∧
        (∀ e ∈ (everyEntries 9).take 8, (1 : Byte).toNat ≤ e.id) ∧ (∀ e ∈ (everyEntries 9).drop 8, (1 : Byte).toNat ≤ e.id) ∧
        ((everyEntries 9).take 8).length = 8 ∧ (everyEntries 9).drop 8 ≠ []) ∧
      (Admits .listSubscriptions (request .listSubscriptions [24])
          (asked .listSubscriptions [24] (withSubs (everyEntries 24) idlePart)) ∧
        everyEntries 24 = (everyEntries 24).take 23 ++ (everyEntries 24).drop 23 ++ [] ∧
        (∀ e ∈ (everyEntries 24).take 23, e.id < (24 : Byte).toNat) ∧
        ∀ e ∈ (everyEntries 24).drop 23, (24 : Byte).toNat ≤ e.id) ∧
      Admits .listSubscriptions (request .listSubscriptions [0]) (asked .listSubscriptions [0] idlePart) ∧
      Admits .listSubscriptions (request .listSubscriptions [25]) (asked .listSubscriptions [25] idlePart) :=
  ⟨⟨admits_asked (ready_withSubs ready_idlePart) rfl, by decide⟩,
    ⟨admits_asked (ready_withSubs ready_idlePart) rfl, by decide⟩,
    ⟨admits_asked (ready_withSubs ready_idlePart) rfl, by decide, by decide, by decide, by decide, by decide⟩,
    ⟨admits_asked (ready_withSubs ready_idlePart) rfl, by decide, by decide, by decide⟩,
    admits_asked ready_idlePart rfl, admits_asked ready_idlePart rfl⟩

theorem ready_withReport {q : ReportSide} {s : State} (h : Ready s) : Ready (withReport q s) :=
  ⟨h.running, h.opened, h.room, h.clear, h.memory⟩

/-- n = 0; sums of 255 and 256. -/
theorem witness_GrantRaisesCredits :
    Admits .grant (request .grant [0]) (asked .grant [0] idlePart) ∧
      (Admits .grant (request .grant [254]) (asked .grant [254] (withReport { ReportSide.reset with credits := 1 } idlePart)) ∧
        1 + (254 : Byte).toNat = 255) ∧
      (Admits .grant (request .grant [255]) (asked .grant [255] (withReport { ReportSide.reset with credits := 1 } idlePart)) ∧
        1 + (255 : Byte).toNat = 256) :=
  ⟨admits_asked ready_idlePart rfl, ⟨admits_asked (ready_withReport ready_idlePart) rfl, rfl⟩,
    ⟨admits_asked (ready_withReport ready_idlePart) rfl, rfl⟩⟩

/-- INPUT_FAULT of channels 0 to 15 and OFFSET_AT_LIMIT of channel 15: seventeen entries. -/
def seventeenAlerts : List AlertEntry :=
  (List.finRange 16).map (fun n => ⟨.inputFault n, 1, 1, 1⟩) ++ [⟨.offsetAtLimit 15, 1, 1, 1⟩]

theorem ready_withAlerts {es : List AlertEntry} {s : State} (h : Ready s) : Ready (withAlerts es s) :=
  ⟨h.running, h.opened, h.room, h.clear, h.memory⟩

theorem ready_twoAlerts : Ready twoAlerts := ready_withAlerts ready_idlePart

/-- ALL; the list 2, 37; an index of 38; sixteen entries shown with one beyond; first index 37 and 38. -/
theorem witness_AlertRequests :
    Admits .ackAlerts (request .ackAlerts [1]) (asked .ackAlerts [1] twoAlerts) ∧
      (Admits .ackAlerts (request .ackAlerts [0, 2, 37]) (asked .ackAlerts [0, 2, 37] twoAlerts) ∧
        (∀ k ∈ [(2 : Byte), 37], k.toNat ≤ 37) ∧
        ∀ e, (AckForm.list [2, 37]).names e = true ↔ ∃ k ∈ [(2 : Byte), 37], k.toNat = e.key.index) ∧
      (Admits .ackAlerts (request .ackAlerts [0, 37, 38]) (asked .ackAlerts [0, 37, 38] twoAlerts) ∧
        (∀ b ∈ [(37 : Byte)], b.toNat ≤ 37) ∧ 38 ≤ (38 : Byte).toNat) ∧
      (Admits .readAlerts (request .readAlerts [6]) (asked .readAlerts [6] (withAlerts seventeenAlerts idlePart)) ∧
        seventeenAlerts = [] ++ seventeenAlerts.take 16 ++ seventeenAlerts.drop 16 ∧
        (∀ e ∈ seventeenAlerts, (6 : Byte).toNat ≤ e.key.index) ∧ (seventeenAlerts.take 16).length = 16 ∧
        seventeenAlerts.drop 16 ≠ []) ∧
      Admits .readAlerts (request .readAlerts [37]) (asked .readAlerts [37] (withAlerts seventeenAlerts idlePart)) ∧
      (Admits .readAlerts (request .readAlerts [38]) (asked .readAlerts [38] twoAlerts) ∧ 38 ≤ (38 : Byte).toNat) :=
  ⟨admits_asked ready_twoAlerts rfl,
    ⟨admits_asked ready_twoAlerts rfl, by decide, fun e => by simp [AckForm.names]⟩,
    ⟨admits_asked ready_twoAlerts rfl, by decide, by decide⟩,
    ⟨admits_asked (ready_withAlerts ready_idlePart) rfl, by decide, by decide, by decide, by decide⟩,
    admits_asked (ready_withAlerts ready_idlePart) rfl, ⟨admits_asked ready_twoAlerts rfl, by decide⟩⟩

/-- KINDs 0x00 and 0x15; GRANT with the session CLOSED; GRANT with an empty body. -/
theorem witness_CommonChecks :
    (∀ kind ∈ [(0x00 : Byte), 0x15], Executes (makeFrame 7 kind []) (holding (makeFrame 7 kind []) idlePart) ∧
        ∀ k : RequestKind, kind ≠ k.code) ∧
      (∃ s : State, Executes (request .grant [2]) s ∧ (request .grant [2]).kind = RequestKind.grant.code ∧
        ¬ SessionAllows .grant s) ∧
      (Executes (request .grant []) (asked .grant [] idlePart) ∧ SessionAllows .grant (asked .grant [] idlePart) ∧
        ¬ WellFormedBody .grant (request .grant []).body) := by
  refine ⟨fun kind hk => ⟨executes_holding ready_idlePart _, ?_⟩,
    ⟨{ asked .grant [2] idlePart with session := .closed },
      ⟨⟨rfl, rfl, by decide, rfl⟩, nofun⟩, rfl, by rintro (h | h | h | h) <;> exact absurd h (by decide)⟩,
    ⟨executes_holding ready_idlePart _, .inl rfl, by simp [WellFormedBody, request, makeFrame]⟩⟩
  simp only [List.mem_cons, List.not_mem_nil, or_false] at hk
  rcases hk with rfl | rfl <;> exact RequestKind.ofCode_eq_none.1 (by decide)

/-- `f` held, and remembered as the last request executed. -/
def repeated (f : Frame) (r : Reply) : State :=
  { holding f idlePart with
    link := { (holding f idlePart).link with memory := some ⟨f.seq, f.kind, f.crc, r⟩ } }

/-- A request held while a request of another CRC is remembered. -/
def repeatedBut (k : RequestKind) (body : List Byte) : State :=
  { asked k body idlePart with
    link := { (asked k body idlePart).link with memory := some ⟨7, k.code, 0, ⟨7, k.code + 0x80, [0]⟩⟩ } }

theorem witness_DuplicateAnswered (f : Frame) (r : Reply) :
    Takes f (repeated f r) ∧ (repeated f r).link.memory = some ⟨f.seq, f.kind, f.crc, r⟩ ∧
      Remembered.sameAs ⟨f.seq, f.kind, f.crc, r⟩ f :=
  ⟨⟨rfl, rfl, Nat.zero_lt_two, rfl⟩, rfl, rfl, rfl, rfl⟩

/-- A request taken and one refused. -/
theorem witness_RefusalsChangeNothing :
    ∀ n ∈ [(0 : Byte), 2], Executes (request .grant [n]) (asked .grant [n] idlePart) ∧
      (request .grant [n]).kind = RequestKind.grant.code :=
  fun _ _ => ⟨executes_holding ready_idlePart _, rfl⟩

theorem alertLaw_twoAlerts : AlertLaw (asked .readAlerts [0] twoAlerts) where
  entries := ⟨by decide, by decide⟩
  outstanding := by simp [asked, holding, twoAlerts, withAlerts]
  waiting := nofun

theorem witness_RepliesFitTheFrame :
    Executes (request .readAlerts [0]) (asked .readAlerts [0] twoAlerts) ∧
      (request .readAlerts [0]).kind = RequestKind.readAlerts.code ∧ AlertLaw (asked .readAlerts [0] twoAlerts) ∧
      TrackerLaw (asked .readAlerts [0] twoAlerts) ∧ ∃ t, exec .readAlerts (asked .readAlerts [0] twoAlerts) = .next t :=
  ⟨executes_holding ready_twoAlerts _, rfl, alertLaw_twoAlerts, trackerLaw_of_defaults rfl rfl, _, rfl⟩

/-- `s` with `n` frames held. -/
def holdingMany (n : Nat) (s : State) : State :=
  { s with link := { s.link with holding := List.replicate n (request .grant [2]) } }

/-- A wrong CRC; a right one with one and with two frames held; a LEN of 241; the four states inside a frame, without a start bit
and with one. -/
theorem witness_ArrivalAndReceiverErrors :
    (∀ n, (holdingMany n (receiving .check (some ⟨some 0, some 7, some 2, [], 0x1234, some 0x12⟩) idlePart)).phase = .running ∧
        (holdingMany n (receiving .check (some ⟨some 0, some 7, some 2, [], 0x1234, some 0x12⟩) idlePart)).link.rxdLow = false ∧
        (holdingMany n (receiving .check (some ⟨some 0, some 7, some 2, [], 0x1234, some 0x12⟩) idlePart)).link.rxState = .check ∧
        (holdingMany n (receiving .check (some ⟨some 0, some 7, some 2, [], 0x1234, some 0x12⟩) idlePart)).link.holding.length = n) ∧
      (0x12#8 ++ 0x35#8 : Word16) ≠ 0x1234 ∧ (0x12#8 ++ 0x34#8 : Word16) = 0x1234 ∧
      ((receiving .header (some .start) idlePart).link.rxState = .header ∧ RxFrame.start.len = none ∧ 241 ≤ (241 : Byte).toNat) ∧
      ∀ r ∈ [RxState.sync, .header, .body, .check],
        (receiving r none idlePart).phase = .running ∧ (receiving r none idlePart).link.rxState = r ∧
          (receiving r none idlePart).link.startBit = false ∧
          (after .wake (receiving r none idlePart)).link.startBit = true :=
  ⟨fun _ => ⟨rfl, rfl, rfl, List.length_replicate⟩, by decide, by decide, ⟨rfl, rfl, by decide⟩, by decide +kernel⟩

/-- Every receiver state with any frame in progress; LEN bytes 240 and 241; the last body byte and the one before it. -/
theorem witness_CharacterReceived :
    (∀ r f, (receiving r f idlePart).phase = .running ∧ (receiving r f idlePart).link.rxdLow = false ∧
        (receiving r f idlePart).link.rxState = r ∧ (receiving r f idlePart).link.rxFrame = f) ∧
      (240 : Byte).toNat ≤ 240 ∧ 241 ≤ (241 : Byte).toNat ∧ (0x00 : Byte) ≠ 0x5A ∧ (0x00 : Byte) ≠ 0xA5 :=
  ⟨fun _ _ => ⟨rfl, rfl, rfl, rfl⟩, by decide, by decide, by decide, by decide⟩

/-- A body of 240 bytes; holdings of 0, 1 and 2; a CRC that is not the frame's. -/
theorem witness_WireRoundTrip :
    (∀ n, (holdingMany n idlePart).phase = .running ∧ (holdingMany n idlePart).link.rxdLow = false ∧
        (holdingMany n idlePart).link.rxState = .hunt ∧ (holdingMany n idlePart).link.holding.length = n) ∧
      (List.replicate 240 (0 : Byte)).length ≤ 240 ∧
      (makeFrame 7 0x11 [2]).crc + 1 ≠ (makeFrame 7 0x11 [2]).crc :=
  ⟨fun _ => ⟨rfl, rfl, rfl, List.length_replicate⟩, List.length_replicate.le, (fun x => by simp : ∀ x : Word16, x + 1 ≠ x) _⟩

theorem witness_BreakAndItsEnd :
    (idlePart.phase = .running ∧ idlePart.link.rxdLow = false ∧ idlePart.link.rxState ≠ .wakeListen ∧
        idlePart.link.resetTaken = false) ∧
      (resetTaken.phase = .running ∧ resetTaken.link.rxdLow = false ∧ resetTaken.link.rxState ≠ .wakeListen ∧
        resetTaken.link.resetTaken = true ∧ ResetReplyPending resetTaken.link) ∧
      (dozing.phase = .running ∧ dozing.link.rxdLow = false ∧ dozing.link.rxState = .wakeListen ∧
        ∃ t, exec .wake dozing = .next t) ∧
      ({ idlePart with link := { idlePart.link with rxdLow := true } } : State).link.rxdLow = true :=
  ⟨⟨rfl, rfl, by decide, rfl⟩,
    ⟨by decide +kernel, by decide +kernel, by decide +kernel, by decide +kernel, .inl ⟨⟨7, 0x83, [0]⟩, by decide +kernel, rfl, rfl⟩⟩,
    ⟨rfl, rfl, rfl, _, rfl⟩, rfl⟩

/-- WAITING with doze ON; with an entry held and no credit. -/
def mayDoze : State := withLive [(.device .doze, 1)] (inRunState .waiting idlePart)
def mayDozeWithoutCredit : State := withReport { ReportSide.reset with queue := [.report (plainRecord 1)] } mayDoze

theorem witness_DozeAndWake :
    (∀ s ∈ [mayDoze, mayDozeWithoutCredit], s.phase = .running ∧ s.engine.runState = .waiting ∧ s.store.live.device.doze = true ∧
        s.link.holding = [] ∧ s.link.rxState = .hunt ∧ s.link.startBit = false ∧ s.link.rxdLow = false ∧ s.link.replies = [] ∧
        s.link.transmitter = .idle ∧ s.link.readyNotice = none ∧ s.link.alertNotice = false ∧
        (s.report.queue = [] ∧ s.report.tally = none ∨ s.report.credits = 0)) ∧
      (exec .dozeEntry mayDoze = .next (after .dozeEntry mayDoze) ∧ (after .dozeEntry mayDoze).engine.runState = .doze ∧
        mayDoze.engine.runState ≠ .doze) ∧
      (dozing.phase = .running ∧ dozing.link.rxState = .wakeListen ∧ dozing.link.rxdLow = false) ∧
      (receiving .wakeQuiet none idlePart).link.rxState = .wakeQuiet ∧ (receiving .wakeQuiet none idlePart).link.rxdLow = false := by
  refine ⟨fun s hs => ?_, ⟨rfl, by decide +kernel, by decide⟩, ⟨rfl, rfl, rfl⟩, rfl, rfl⟩
  simp only [List.mem_cons, List.not_mem_nil, or_false] at hs
  rcases hs with rfl | rfl
  · exact ⟨rfl, rfl, by decide +kernel, rfl, rfl, rfl, rfl, rfl, rfl, rfl, rfl, .inl ⟨rfl, rfl⟩⟩
  · exact ⟨rfl, rfl, by decide +kernel, rfl, rfl, rfl, rfl, rfl, rfl, rfl, rfl, .inr rfl⟩

/-- What the arbiter may find, candidate by candidate. -/
def candidates (replies : List Reply) (ready : Option ResetCause) (alert : Bool) (q : ReportSide) : State :=
  { idlePart with report := q, link := { idlePart.link with replies := replies, readyNotice := ready, alertNotice := alert } }

theorem witness_ArbiterChooses :
    ∀ replies ready alert q,
      (candidates replies ready alert q).phase = .running ∧ (candidates replies ready alert q).link.transmitter = .idle ∧
        (candidates replies ready alert q).link.rxdLow = false ∧ (candidates replies ready alert q).link.replies = replies ∧
        (candidates replies ready alert q).link.readyNotice = ready ∧ (candidates replies ready alert q).link.alertNotice = alert ∧
        (candidates replies ready alert q).report = q :=
  fun _ _ _ _ => ⟨rfl, rfl, rfl, rfl, rfl, rfl, rfl⟩

/-- `idlePart` with an engine given. -/
def withEngine (r : RunState) (m : Mode) (timer : ScanTimer) (settle : Option Settle) (q : Qualifier) : State :=
  { idlePart with engine := { ScanEngine.reset with runState := r, mode := m, timer := timer, settle := settle, qualifier := q } }

/-- Any run state, mode, timer, settle and qualifier may meet in a running part. -/
theorem witness_SettlesEnd_TimerExpires_TriggersQualifiedAndTaken :
    ∀ r m timer settle q,
      (withEngine r m timer settle q).phase = .running ∧ (withEngine r m timer settle q).engine.runState = r ∧
        (withEngine r m timer settle q).engine.mode = m ∧ (withEngine r m timer settle q).engine.timer = timer ∧
        (withEngine r m timer settle q).engine.settle = settle ∧ (withEngine r m timer settle q).engine.qualifier = q :=
  fun _ _ _ _ _ => ⟨rfl, rfl, rfl, rfl, rfl, rfl⟩

theorem witness_trigger_edges :
    idlePart.store.live.device.triggerEdge = .rising ∧ Edge.falling ≠ idlePart.store.live.device.triggerEdge := by decide

theorem witness_ScanStartEffects :
    idlePart.store.batch = none ∧ (withBatch [] 1 idlePart).store.batch = some ⟨[], 1⟩ ∧ idlePart.phase = .running :=
  ⟨rfl, rfl, rfl⟩

/-- The defaults' first scan as it stands in its slot `slot`, with readings of nothing, one alert, a full queue with a loss, and
23 subscriptions; a timer expiry waits. -/
def busyPart (slot : SlotInFlight) : State :=
  { idlePart with
    pending := [.timerExpiry]
    engine :=
      { ScanEngine.reset with
        runState := .scanning, scanCounter := 1, timer := .running 100000 100000, counters := ⟨1, 0, 0, 0, 0⟩ }
    frontEnd := { FrontEnd.reset with slot := some slot }
    drivers := ⟨.on, .on⟩
    subs := everyEntries 23
    report :=
      { ReportSide.reset with
        queue := List.replicate 48 (.report (plainRecord 1)), tally := some ⟨1, 1, 1⟩, credits := 255
        counters := ⟨49, 0, 0, 1, 0⟩ }
    alerts := ⟨[⟨.reportLoss, 1, 1, 1⟩], true⟩ }

def inSlot (number : Nat) (phase : SlotPhase) (left : Nat) : SlotInFlight :=
  ⟨number, .measure, 0, 1, 4, .a, phase, left, 0, false, false, 200⟩

/-- Discards left 2 and 1; counts left 2 and 1; slot 14 with slot 15 to come, and slot 15, the plan's last of 16. -/
theorem witness_ConversionsWalkThePlan :
    ∀ sl ∈ [inSlot 0 .discard 2, inSlot 0 .discard 1, inSlot 0 .count 2, inSlot 14 .count 1, inSlot 15 .count 1],
      (busyPart sl).phase = .running ∧ InScan (busyPart sl) ∧ (busyPart sl).frontEnd.slot = some sl ∧
        (busyPart sl).store.live.device.planLength = 16 :=
  fun _ _ => ⟨rfl, .inl rfl, rfl, rfl⟩

/-- The busy part's queue: full, with a loss in its tally, and its account in balance. -/
theorem queueLaw_busyPart : QueueLaw (busyPart (inSlot 15 .count 1)).report where
  length := List.length_replicate.le
  tallyFull := fun _ => List.length_replicate
  tally := by rintro l ⟨⟩; exact ⟨by decide, by decide⟩
  gaps := by
    intro l hl
    have := List.eq_of_mem_replicate hl
    cases this
  credits := by decide

theorem account_busyPart : Account (busyPart (inSlot 15 .count 1)).report := by
  unfold Account
  decide +kernel

/-- Two entries that report at every scan, and two results for them. -/
def twoRecords : List ReportRecord :=
  recordsMade (.replicate 16 (some (channelResult (ChannelConfig.defaults 0) 1 1 0 [] [])))
    [⟨1, 0, .every 1, false, false, 0, none, .unknown⟩, ⟨2, 1, .every 1, false, false, 0, none, .unknown⟩]

/-- No limit; a limit of 1 reached; DRAINING; a batch waiting; choices after 0, 1 and 2 of two arrivals. -/
theorem witness_CompletionEffects :
    let s := busyPart (inSlot 15 .count 1)
    (InScan s ∧ s.store.batch = none ∧ s.engine.runState = .scanning ∧ s.engine.scanLimit = 0 ∧ QueueLaw s.report) ∧
      (1 ≤ { s.engine with scanLimit := 1 }.scanLimit ∧ (s.engine.scansSinceStart + 1).toNat = 1) ∧
      InScan (inRunState .draining s) ∧
      (InScan (withBatch (gainEdits [3]) 1 s) ∧ (withBatch (gainEdits [3]) 1 s).store.batch ≠ none) ∧
      (1 < twoRecords.length ∧ twoRecords.length ≤ 2) :=
  ⟨⟨.inl rfl, rfl, rfl, rfl, queueLaw_busyPart⟩, ⟨by decide, by decide⟩, .inr rfl, ⟨.inl rfl, by decide⟩, by decide +kernel⟩

/-- A driver in each of its states; a set that lacks a key and one that has it, at 65534 and 65535 occurrences; the notice
outstanding and not; ALERT_N at both levels. -/
theorem witness_OvercurrentTrips :
    ((∀ n ∈ [65534, 65535], AlertEntriesLaw [⟨.reportLoss, 1, 1, n⟩]) ∧
      (∀ e ∈ [(⟨.reportLoss, 1, 1, 1⟩ : AlertEntry)], e.key ≠ .linkError) ∧ idlePart.alerts.noticeOutstanding = false ∧
      (busyPart (inSlot 15 .count 1)).alerts.noticeOutstanding = true ∧ (busyPart (inSlot 15 .count 1)).alertN = .low ∧
      idlePart.alertN = .high) ∧
    idlePart.drivers.a ≠ .on ∧ idlePart.drivers.b ≠ .on ∧ (busyPart (inSlot 15 .count 1)).drivers.a = .on ∧
      (busyPart (inSlot 15 .count 1)).drivers.b = .on := by
  refine ⟨⟨fun n hn => ⟨List.pairwise_singleton _ _, fun e he => ?_⟩, by decide, rfl, rfl, by decide, by decide⟩, by decide⟩
  obtain rfl := List.mem_singleton.1 he
  simp only [List.mem_cons, List.not_mem_nil, or_false] at hn
  rcases hn with rfl | rfl <;> decide

theorem editsLaw_gainEdits : EditsLaw (gainEdits [3, 5]) := ⟨by decide, by decide⟩

theorem witness_BatchApplication :
    EditsLaw (gainEdits [3, 5]) ∧ (∀ e ∈ gainEdits [3, 5], e.field ≠ .device .doze) := ⟨editsLaw_gainEdits, by decide⟩

/-- A TRACK channel and its record in HOLDING, at the bound and just past a tighter one. -/
def trackedChannel : ChannelConfig := { ChannelConfig.defaults 4 with zeroMode := .track }
def heldRecord (state : TrackerState) (window : List Int) (remaining : Nat) : Tracker :=
  ⟨state, -800, window, remaining, some (-800), none, 0⟩

theorem recordLaw_held : RecordLaw trackedChannel (heldRecord .holding [-800] 0) := by
  constructor <;> simp [trackedChannel, heldRecord, TrackerStateLaw, ChannelConfig.defaults, CodeRange]

theorem recordLaw_following : RecordLaw trackedChannel (heldRecord .following [-800] 3) := by
  constructor <;> simp [trackedChannel, heldRecord, TrackerStateLaw, ChannelConfig.defaults, CodeRange]

theorem recordLaw_pending : RecordLaw trackedChannel (heldRecord .hardPending [] 0) := by
  constructor <;> simp [trackedChannel, heldRecord, TrackerStateLaw, ChannelConfig.defaults, CodeRange]

theorem recordLaw_continuous :
    RecordLaw { trackedChannel with followScans := 255 } (heldRecord .continuous [-800] 0) := by
  constructor <;> simp [trackedChannel, heldRecord, TrackerStateLaw, ChannelConfig.defaults, CodeRange]

/-- FIXED and TRACK channels with their records; max_correction 800 and 799 against 800; a change that triggers and one that
does not. -/
theorem witness_TrackerFollowsConfiguration :
    (RecordLaw (ChannelConfig.defaults 4) .reset ∧ (ChannelConfig.defaults 4).zeroMode = .fixed) ∧
      (RecordLaw trackedChannel (heldRecord .holding [-800] 0) ∧ trackedChannel.zeroMode = .track) ∧
      (¬ 800 < (heldRecord .holding [-800] 0).appliedOffset.natAbs ∧ 799 < (heldRecord .holding [-800] 0).appliedOffset.natAbs) ∧
      (trackedChannel.enabled = true ∧ trackedChannel.changeTrigger = true ∧
        trackedChannel.gain ≠ { trackedChannel with gain := 2 }.gain) ∧
      { trackedChannel with changeTrigger := false }.changeTrigger ≠ true :=
  ⟨⟨recordLaw_reset 4, rfl⟩, ⟨recordLaw_held, rfl⟩, by decide, by decide, by decide⟩

/-- Estimates 256 and 257 from an applied offset of 0 meet the soft threshold of 256, 4096 and 4097 the hard one of 4096; every
state and both responses; thresholds that are off. -/
theorem witness_TrackerAtCompletion :
    (∀ v : Int, ((heldRecord .holding [] 0).window ++ [v]).drop (((heldRecord .holding [] 0).window ++ [v]).length - 8) = [v]) ∧
      (∀ v ∈ [(256 : Int), 257, 4096, 4097], estimate [v] = v) ∧
      (trackedChannel.hardThreshold ≠ 65535 ∧ ¬ (trackedChannel.hardThreshold : Int) < |4096 - 0| ∧
        (trackedChannel.hardThreshold : Int) < |4097 - 0|) ∧
      (trackedChannel.softThreshold ≠ 65535 ∧ ¬ (trackedChannel.softThreshold : Int) < |256 - 0| ∧
        (trackedChannel.softThreshold : Int) < |257 - 0|) ∧
      { trackedChannel with hardThreshold := 65535 }.hardThreshold = 65535 ∧ trackedChannel.thresholdResponse = .soft ∧
      { trackedChannel with thresholdResponse := .hard }.thresholdResponse = .hard ∧
      ∀ state, (heldRecord state [] 1).state = state ∧ 1 ≤ (heldRecord state [] 1).remaining :=
  ⟨fun _ => rfl, by decide, by decide, by decide, rfl, rfl, rfl, fun _ => ⟨rfl, Nat.le_refl 1⟩⟩

/-- Windows of 1, 3, 4, 7 and 8 values. -/
theorem witness_EstimateIsTrimmedMean :
    ∀ n ∈ [1, 3, 4, 7, 8], ([1, 2, 3, 4, 5, 6, 7, 8] : List Int).take n |>.Pairwise (· ≤ ·) := by decide

theorem witness_ChannelResultArithmetic :
    validValues [⟨0, .openInput⟩] = [] ∧ validValues [⟨0, .valid 5⟩] ≠ [] := by decide

/-- An EVERY entry on its last and its last but one scan, a DEADBAND at and below its distance, a LIMIT at its marks. -/
theorem witness_SubscriptionsEvaluated :
    (Condition.every 3 = .every 3 ∧ 2 + 1 = 3 ∧ 1 + 1 ≠ 3) ∧ (50 : Int) ≤ |10070 - 10020| ∧ |10069 - 10020| < (50 : Int) ∧
      ConditionLaw (.limit 0 2000 1000) ∧
      (Zone.above = .above ↔ (2000 : Int) < 1001 ∨ Zone.above = .above ∧ (2000 : Int) - 1000 < 1001) ∧
      (Zone.above = .below ↔ (1001 : Int) < 0 ∨ Zone.above = .below ∧ (1001 : Int) < 0 + 1000) := by
  refine ⟨by decide, by decide, by decide, ?_, by decide, by decide⟩
  simp [ConditionLaw, ValueRange]

/-- 47 entries, and 48 under each policy. -/
theorem witness_ArrivalsAndLosses :
    stalled.queue.length < 48 ∧ 48 ≤ (busyPart (inSlot 15 .count 1)).report.queue.length ∧
      (busyPart (inSlot 15 .count 1)).report.policy = .dropNewest ∧
      { (busyPart (inSlot 15 .count 1)).report with policy := .dropOldest }.queue =
        .report (plainRecord 1) :: List.replicate 47 (.report (plainRecord 1)) :=
  ⟨by decide, List.length_replicate.ge, rfl, rfl⟩

/-! #### The laws, all of them at once in a part at work -/

theorem inRange_defaults : InRange .defaults := by
  rintro (f | ⟨n, f⟩ | ⟨i, f⟩) <;> cases f <;> simp only [FieldRef.inRange, Configuration.get]
  all_goals first | decide | (revert n; decide +kernel) | (revert i; decide +kernel)

theorem passesChecks_defaults : PassesChecks .defaults := (consistencyFault_eq_none _).1 (by decide +kernel)

theorem configLaw_busyPart (sl : SlotInFlight) : ConfigLaw (busyPart sl) where
  inRange := inRange_defaults
  passes := passesChecks_defaults
  staging := ⟨.nil, nofun⟩
  staged := Nat.zero_le _
  epoch := nofun
  edits := nofun
  prospect := nofun
  noBatch := nofun

theorem engineLaw_busyPart (sl : SlotInFlight) : EngineLaw (busyPart sl) where
  counted := rfl
  numbered := rfl
  timer := by simp [busyPart, ScanEngine.reset]
  arming := by simp [busyPart, ScanEngine.reset]
  settling := by simp [busyPart, ScanEngine.reset]
  slot := by simp [busyPart, InScan]
  lists := fun h => absurd (.inl rfl) h
  listening := by simp [busyPart, idlePart]

theorem driverLaw_busyPart (sl : SlotInFlight) : DriverLaw (busyPart sl) := fun _ => by simp [busyPart]

theorem frontEndLaw_busyPart : FrontEndLaw (busyPart (inSlot 15 .count 1)) where
  slot := by
    rintro sl ⟨⟩
    refine ⟨⟨by decide, by decide, nofun, fun _ => by decide⟩, by decide, ⟨?_, ?_, ?_⟩⟩ <;>
      simp [busyPart, FrontEnd.reset, validValues]
  snapshot := by simp [busyPart, ScanEngine.reset]
  results := by simp [busyPart, FrontEnd.reset]

theorem alertLaw_busyPart (sl : SlotInFlight) : AlertLaw (busyPart sl) where
  entries := ⟨List.pairwise_singleton _ _, fun e he => by
    obtain rfl := List.mem_singleton.1 he
    exact ⟨by decide, by decide⟩⟩
  outstanding := by simp [busyPart]
  waiting := nofun

theorem startUpLaw_busyPart (sl : SlotInFlight) : StartUpLaw (busyPart sl) := ⟨fun h => absurd rfl h, fun _ => nofun⟩

theorem witness_LinkLawKept :
    LinkLaw (busyPart (inSlot 15 .count 1)) ∧
      (busyPart (inSlot 15 .count 1)).link.noticeSeq = (busyPart (inSlot 15 .count 1)).link.counters.noticesSent.setWidth 8 ∧
      ∃ t, step (busyPart (inSlot 15 .count 1)) = .next t :=
  ⟨⟨by decide, by decide⟩, by decide, _, rfl⟩

/-- A duplicate; and a GRANT executed while another request is remembered. -/
theorem witness_MemoryNeverRepeats :
    ((∃ t, exec .grant (repeatedBut .grant [3]) = .next t ∧ t.link.holding = []) ∧
      (repeatedBut .grant [3]).link.memory = some ⟨7, 0x11, 0, ⟨7, 0x91, [0]⟩⟩ ∧ RequestCommand .grant) ∧
    (∃ t, exec .duplicate (repeated (request .grant [2]) ⟨7, 0x91, [0, 2]⟩) = .next t) ∧
      ∃ m, (repeated (request .grant [2]) ⟨7, 0x91, [0, 2]⟩).link.memory = some m :=
  ⟨⟨⟨_, rfl, by decide +kernel⟩, rfl, .inr ⟨.grant, rfl⟩⟩, ⟨_, rfl⟩, _, rfl⟩

theorem witness_ReportSideLawKept :
    QueueLaw (busyPart (inSlot 15 .count 1)).report ∧ Account (busyPart (inSlot 15 .count 1)).report ∧
      ∃ t, step (busyPart (inSlot 15 .count 1)) = .next t := ⟨queueLaw_busyPart, account_busyPart, _, rfl⟩

theorem witness_NoReportWithoutCredit :
    exec .arbiterChoice idleMoment = .next (after .arbiterChoice idleMoment) ∧ idleMoment.phase = .running ∧
      (after .arbiterChoice idleMoment).phase = .running ∧
      (after .arbiterChoice idleMoment).report.counters.sent ≠ idleMoment.report.counters.sent :=
  ⟨rfl, rfl, by decide +kernel, by decide +kernel⟩

theorem witness_AlertLawKept :
    AlertLaw (busyPart (inSlot 15 .count 1)) ∧ ∃ t, step (busyPart (inSlot 15 .count 1)) = .next t :=
  ⟨alertLaw_busyPart _, _, rfl⟩

/-- The part at work, and the end of a start-up. -/
theorem witness_StartUpLawKept :
    (StartUpLaw (busyPart (inSlot 15 .count 1)) ∧ ∃ t, step (busyPart (inSlot 15 .count 1)) = .next t) ∧
      StartUpLaw { State.reset with pending := [.startUpEnd] } ∧ State.reset.phase ≠ .running ∧
      (after .startUpEnd State.reset).phase = .running :=
  ⟨⟨startUpLaw_busyPart _, _, rfl⟩, ⟨fun _ => rfl, fun h => by cases h⟩, nofun, rfl⟩

theorem witness_EngineLawKept :
    StartUpLaw (busyPart (inSlot 15 .count 1)) ∧ EngineLaw (busyPart (inSlot 15 .count 1)) ∧
      DriverLaw (busyPart (inSlot 15 .count 1)) ∧ ∃ t, step (busyPart (inSlot 15 .count 1)) = .next t :=
  ⟨startUpLaw_busyPart _, engineLaw_busyPart _, driverLaw_busyPart _, _, rfl⟩

theorem witness_ConfigLawKept :
    ConfigLaw (busyPart (inSlot 15 .count 1)) ∧ ∃ t, step (busyPart (inSlot 15 .count 1)) = .next t :=
  ⟨configLaw_busyPart _, _, rfl⟩

theorem witness_FrontEndLawKept :
    ConfigLaw (busyPart (inSlot 15 .count 1)) ∧ TrackerLaw (busyPart (inSlot 15 .count 1)) ∧
      EngineLaw (busyPart (inSlot 15 .count 1)) ∧ FrontEndLaw (busyPart (inSlot 15 .count 1)) ∧
      ∃ t, step (busyPart (inSlot 15 .count 1)) = .next t :=
  ⟨configLaw_busyPart _, trackerLaw_of_defaults rfl rfl, engineLaw_busyPart _, frontEndLaw_busyPart, _, rfl⟩

theorem witness_TrackerLawKept :
    ConfigLaw (busyPart (inSlot 15 .count 1)) ∧ FrontEndLaw (busyPart (inSlot 15 .count 1)) ∧
      TrackerLaw (busyPart (inSlot 15 .count 1)) ∧ ∃ t, step (busyPart (inSlot 15 .count 1)) = .next t :=
  ⟨configLaw_busyPart _, frontEndLaw_busyPart, trackerLaw_of_defaults rfl rfl, _, rfl⟩

theorem witness_SubscriptionsLawKept :
    SubscriptionsLaw (busyPart (inSlot 15 .count 1)).subs ∧ ∃ t, step (busyPart (inSlot 15 .count 1)) = .next t :=
  ⟨subscriptionsLaw_everyEntries, _, rfl⟩

theorem witness_OneConfigurationPerScan :
    InScan (busyPart (inSlot 0 .count 1)) ∧ InScan (after .timerExpiry (busyPart (inSlot 0 .count 1))) ∧
      exec .timerExpiry (busyPart (inSlot 0 .count 1)) = .next (after .timerExpiry (busyPart (inSlot 0 .count 1))) :=
  ⟨.inl rfl, .inl rfl, rfl⟩

theorem witness_ConfigurationChangesOnlyByApplication :
    ConfigLaw (busyPart (inSlot 0 .count 1)) ∧ (busyPart (inSlot 0 .count 1)).engine.runState ≠ .standby ∧
      (after .timerExpiry (busyPart (inSlot 0 .count 1))).phase = .running ∧ (FieldRef.device .exciteALevel).standbyOnly = true :=
  ⟨configLaw_busyPart _, by decide, rfl, rfl⟩

end Sys2Proof.Machine
end

section
/-! PROOFS. What every command can do to the configuration store: one inversion lemma, from which the laws of chapter 1 that
every step keeps follow (R7, R8, R13 to R20, R37). -/

namespace Sys2Proof.Machine

/-! ### The store at a boundary -/

/-- The store after a boundary: a waiting batch applied, else nothing (R20). -/
def ConfigStore.atBoundary (st : ConfigStore) : ConfigStore :=
  match st.batch with
  | none => st
  | some b => { st with live := st.live.applyEdits b.edits, epoch := b.epoch, batch := none }

theorem ConfigStore.atBoundary_of_none {st : ConfigStore} (h : st.batch = none) : st.atBoundary = st := by
  simp [ConfigStore.atBoundary, h]

theorem ConfigStore.atBoundary_of_some {st : ConfigStore} {b : Batch} (h : st.batch = some b) :
    st.atBoundary = { st with live := st.live.applyEdits b.edits, epoch := b.epoch, batch := none } := by
  simp [ConfigStore.atBoundary, h]

theorem boundary_store (s : State) : s.boundary.store = s.store.atBoundary := by
  rcases boundary_cases s with ⟨hn, h⟩ | ⟨b, hb, h⟩
  · rw [h, ConfigStore.atBoundary_of_none hn]
  · rw [h, applyBatch_store, ConfigStore.atBoundary_of_some hb]

theorem scanStart_store_atBoundary (s : State) : s.scanStart.store = s.store.atBoundary := by
  rw [scanStart_store, boundary_store, State.countScan_store]

theorem enterStandby_store (s : State) : s.enterStandby.store = s.store.atBoundary :=
  boundary_store s.restEngine

/-! ### What a command can do to the store -/

/-- The store, and what the scan in progress holds of it, are as before; STANDBY is not entered. -/
structure StoreKept (s t : State) : Prop where
  store : t.store = s.store
  scanEpoch : t.engine.scanEpoch = s.engine.scanEpoch
  snapshot : t.engine.snapshot = s.engine.snapshot
  scanCounter : t.engine.scanCounter = s.engine.scanCounter
  standby : t.engine.runState = .standby → s.engine.runState = .standby

/-- All that a command can do to the store: leave it alone, replace the staging set, make a boundary, take the reset values, or
seal the staging set, in STANDBY with its application. -/
inductive StoreEffect (c : Instr) (s t : State) : Prop
  | kept (h : StoreKept s t)
  | restaged (es : List Edit) (store : t.store = { s.store with staging := es }) (engine : t.engine = s.engine)
      (law : EditsLaw s.store.staging → EditsLaw es) (length : es.length ≤ 64)
  | boundary (store : t.store = s.store.atBoundary) (between : ¬ (InScan s ∧ InScan t))
  | reset (phase : t.phase ≠ .running) (store : t.store = .reset) (engine : t.engine = .reset)
  | applied (command : c = .seal) (passes : s.sealFault = none) (standby : s.engine.runState = .standby)
      (store : t.store = ⟨s.store.prospective, nextEpoch s.store.epoch, [], none⟩) (stays : t.engine.runState = .standby)
  | sealed (passes : s.sealFault = none) (away : s.engine.runState ≠ .standby)
      (store : t.store = { s.store with staging := [], batch := some s.store.sealedBatch }) (engine : t.engine = s.engine)

theorem StoreKept.of_eq {s t : State} (hs : t.store = s.store) (he : t.engine = s.engine) : StoreKept s t :=
  ⟨hs, by rw [he], by rw [he], by rw [he], by rw [he]; exact id⟩

theorem StoreKept.refl (s : State) : StoreKept s s := .of_eq rfl rfl

theorem StoreKept.trans {s t u : State} (h : StoreKept s t) (k : StoreKept t u) : StoreKept s u :=
  ⟨k.store.trans h.store, k.scanEpoch.trans h.scanEpoch, k.snapshot.trans h.snapshot, k.scanCounter.trans h.scanCounter,
    h.standby ∘ k.standby⟩

/-- An effect on a state that a first operation has left its store is one on the state before it. -/
theorem StoreEffect.after_kept {c : Instr} {s u t : State} (hs : u.store = s.store) (he : u.engine = s.engine)
    (h : StoreEffect c u t) : StoreEffect c s t := by
  have hf : u.sealFault = s.sealFault := by unfold State.sealFault; rw [hs, he]
  cases h with
  | kept h => exact .kept ((StoreKept.of_eq hs he).trans h)
  | restaged es store engine law length =>
    exact .restaged es (by rw [store, hs]) (engine.trans he) (by rwa [← hs]) length
  | boundary store between => exact .boundary (by rw [store, hs]) (by simpa only [InScan, he] using between)
  | reset phase store engine => exact .reset phase store engine
  | applied command passes standby store stays =>
    exact .applied command (hf ▸ passes) (he ▸ standby) (by rw [store, hs]) stays
  | sealed passes away store engine =>
    exact .sealed (hf ▸ passes) (he ▸ away) (by rw [store, hs]) (engine.trans he)

theorem storeEffect_whileRunning {c : Instr} {f : State → State} {s : State} (h : StoreEffect c s (f s)) :
    StoreEffect c s (s.whileRunning f) := by
  unfold State.whileRunning
  split_ifs
  · exact h
  · exact .kept (.refl s)

/-! ### Requests -/

/-- A request command does to the store what its own part does. -/
theorem storeEffect_execute {c : Instr} {k : RequestKind} {own : Frame → State → State} {s : State}
    (h : ∀ f, StoreEffect c s.takeHead (own f s.takeHead)) : StoreEffect c s (s.execute k own) := by
  rcases execute_cases k own s with he | ⟨f, -, -, ⟨-, he⟩ | ⟨r, -, he⟩⟩ <;> rw [he]
  · exact .kept (.refl s)
  · exact StoreEffect.after_kept (u := s.takeHead) rfl rfl (h f)
  · exact .kept (.of_eq rfl rfl)

@[simp] theorem renewAlert_store (s : State) : s.renewAlert.store = s.store := by
  unfold State.renewAlert; split_ifs <;> rfl

@[simp] theorem renewAlert_engine (s : State) : s.renewAlert.engine = s.engine := by
  unfold State.renewAlert; split_ifs <;> rfl

theorem editsLaw_nil : EditsLaw [] := ⟨List.Pairwise.nil, nofun⟩

theorem storeEffect_hello (c : Instr) (f : Frame) (s : State) : StoreEffect c s (ownHello f s) := by
  unfold ownHello
  split
  · exact .kept (.of_eq rfl rfl)
  · exact .restaged [] (by simp; rfl) (by simp) (fun _ => editsLaw_nil) (by simp)

theorem storeEffect_stage (c : Instr) (f : Frame) (s : State) : StoreEffect c s (ownStage f s) := by
  unfold ownStage
  split
  · exact .kept (.of_eq rfl rfl)
  · next es hes =>
    dsimp only
    split_ifs with hfull
    · exact .kept (.of_eq rfl rfl)
    · exact .restaged _ rfl rfl (fun h => editsLaw_placeEdits h (checkEdits_ok hes)) (Nat.le_of_not_lt hfull)

theorem storeEffect_discard (c : Instr) (f : Frame) (s : State) : StoreEffect c s (ownDiscard f s) :=
  .restaged [] rfl rfl (fun _ => editsLaw_nil) (by simp)

theorem storeEffect_seal (f : Frame) (s : State) : StoreEffect .seal s (ownSeal f s) := by
  unfold ownSeal
  split
  · exact .kept (.of_eq rfl rfl)
  · next hpass =>
    dsimp only
    split_ifs with hstandby
    · refine .applied rfl hpass hstandby ?_ (by simpa using hstandby)
      rw [State.accept_store, applyBatch_store]; rfl
    · exact .sealed hpass hstandby rfl rfl

theorem storeEffect_start (c : Instr) (f : Frame) (s : State) : StoreEffect c s (ownStart f s) := by
  unfold ownStart
  split
  · exact .kept (.of_eq rfl rfl)
  · exact .kept ⟨rfl, rfl, rfl, rfl, nofun⟩

/-- Entry into STANDBY makes a boundary, and no scan is in progress after it. -/
theorem storeEffect_enterStandby (c : Instr) (s : State) : StoreEffect c s s.enterStandby :=
  .boundary (enterStandby_store s) fun h => by simp [InScan] at h

/-- An effect on the store is left by an operation that leaves the store, the engine and the phase alone. -/
theorem StoreEffect.then_kept {c : Instr} {s t : State} (h : StoreEffect c s t) {u : State} (hs : u.store = t.store)
    (he : u.engine = t.engine) (hp : u.phase = t.phase) : StoreEffect c s u := by
  cases h with
  | kept h => exact .kept (h.trans (.of_eq hs he))
  | restaged es store engine law length => exact .restaged es (hs.trans store) (he.trans engine) law length
  | boundary store between => exact .boundary (hs.trans store) (by simpa only [InScan, he] using between)
  | reset phase store engine => exact .reset (hp ▸ phase) (hs.trans store) (he.trans engine)
  | applied command passes standby store stays =>
    exact .applied command passes standby (hs.trans store) (he ▸ stays)
  | sealed passes away store engine => exact .sealed passes away (hs.trans store) (he.trans engine)


theorem stopRun_cases (s : State) :
    s.stopRun = s ∨ s.stopRun = s.setRunState .draining ∨ s.stopRun = s.enterStandby := by
  unfold State.stopRun
  cases s.engine.runState <;> simp

theorem abortRun_cases (s : State) :
    s.abortRun = s ∨ s.abortRun = s.enterStandby ∨ s.abortRun = s.abortScan.enterStandby := by
  unfold State.abortRun
  cases s.engine.runState <;> simp

theorem storeEffect_stop (c : Instr) (f : Frame) (s : State) : StoreEffect c s (ownStop f s) := by
  refine StoreEffect.then_kept (t := s.stopRun) ?_ rfl rfl rfl
  rcases stopRun_cases s with h | h | h <;> rw [h]
  · exact .kept (.refl s)
  · exact .kept ⟨rfl, rfl, rfl, rfl, nofun⟩
  · exact storeEffect_enterStandby c s

theorem storeEffect_abort (c : Instr) (f : Frame) (s : State) : StoreEffect c s (ownAbort f s) := by
  refine StoreEffect.then_kept (t := s.abortRun) ?_ rfl rfl rfl
  rcases abortRun_cases s with h | h | h <;> rw [h]
  · exact .kept (.refl s)
  · exact storeEffect_enterStandby c s
  · exact .boundary (enterStandby_store s.abortScan) fun h => by simp [InScan] at h

/-! ### Requests that leave the store alone -/

theorem storeKept_readConfig (f : Frame) (s : State) : StoreKept s (ownReadConfig f s) := by
  unfold ownReadConfig
  split <;> exact .of_eq rfl rfl

theorem storeKept_retrack (f : Frame) (s : State) : StoreKept s (ownRetrack f s) := by
  unfold ownRetrack
  split
  · exact .of_eq rfl rfl
  · exact .of_eq (State.accept_store ..) (State.accept_engine ..)

theorem storeKept_readTracker (f : Frame) (s : State) : StoreKept s (ownReadTracker f s) := by
  unfold ownReadTracker
  split <;> exact .of_eq rfl rfl

theorem storeKept_readResults (f : Frame) (s : State) : StoreKept s (ownReadResults f s) := by
  unfold ownReadResults
  split <;> exact .of_eq rfl rfl

theorem storeKept_subscribe (f : Frame) (s : State) : StoreKept s (ownSubscribe f s) := by
  unfold ownSubscribe
  split <;> exact .of_eq rfl rfl

theorem storeKept_unsubscribe (f : Frame) (s : State) : StoreKept s (ownUnsubscribe f s) := by
  unfold ownUnsubscribe
  split
  · split_ifs <;> exact .of_eq rfl rfl
  · exact .of_eq rfl rfl

theorem storeKept_listSubscriptions (f : Frame) (s : State) : StoreKept s (ownListSubscriptions f s) := by
  unfold ownListSubscriptions
  split
  · split_ifs <;> exact .of_eq rfl rfl
  · exact .of_eq rfl rfl

theorem storeKept_grant (f : Frame) (s : State) : StoreKept s (ownGrant f s) := by
  unfold ownGrant
  split
  · split_ifs <;> exact .of_eq rfl rfl
  · exact .of_eq rfl rfl

theorem storeKept_ackAlerts (f : Frame) (s : State) : StoreKept s (ownAckAlerts f s) := by
  unfold ownAckAlerts
  dsimp only
  split
  · exact .of_eq rfl rfl
  · exact .of_eq (renewAlert_store _) (renewAlert_engine _)

theorem storeKept_readAlerts (f : Frame) (s : State) : StoreKept s (ownReadAlerts f s) := by
  unfold ownReadAlerts
  split
  · split_ifs <;> exact .of_eq rfl rfl
  · exact .of_eq rfl rfl

theorem storeKept_unknown (s : State) : StoreKept s s.executeUnknown := by
  rcases executeUnknown_cases s with h | ⟨f, -, -, h⟩ <;> rw [h]
  · exact .refl s
  · exact .of_eq rfl rfl

theorem storeKept_duplicate (s : State) : StoreKept s s.answerDuplicate := by
  rcases answerDuplicate_cases s with h | ⟨f, m, -, -, -, h⟩ <;> rw [h]
  · exact .refl s
  · exact .of_eq rfl rfl

/-! ### Events of the link -/

theorem StoreKept.latch {s u : State} (h : StoreKept s u) (k : AlertKey) : StoreKept s (u.latch k) :=
  h.trans (.of_eq (latch_store k u) (latch_engine k u))

theorem storeKept_timeoutFrame (s : State) : StoreKept s s.timeoutFrame :=
  .of_eq (latch_store ..) (latch_engine ..)

theorem storeKept_lengthFault (s : State) : StoreKept s s.lengthFault :=
  .of_eq (latch_store ..) (latch_engine ..)

theorem storeKept_arrival (f : RxFrame) (high low : Byte) (s : State) : StoreKept s (s.arrival f high low) := by
  unfold State.arrival
  split_ifs
  · exact .of_eq (latch_store ..) (latch_engine ..)
  · exact .of_eq rfl rfl
  · exact .of_eq (latch_store ..) (latch_engine ..)

theorem storeKept_headerByte (f : RxFrame) (b : Byte) (s : State) : StoreKept s (s.headerByte f b) := by
  unfold State.headerByte
  dsimp only
  split
  · split_ifs
    · exact storeKept_lengthFault s
    · exact .of_eq rfl rfl
  · exact .of_eq rfl rfl
  · exact .of_eq rfl rfl

theorem storeKept_checkByte (f : RxFrame) (b : Byte) (s : State) : StoreKept s (s.checkByte f b) := by
  unfold State.checkByte
  split
  · exact .of_eq rfl rfl
  · exact storeKept_arrival f _ b s

theorem storeKept_receiveByte (b : Byte) (s : State) : StoreKept s (s.receiveByte b) := by
  unfold State.receiveByte
  dsimp only
  cases s.link.rxState with
  | inactive => exact .refl s
  | wakeListen => exact .refl s
  | wakeQuiet => exact .refl s
  | hunt => dsimp only; split_ifs <;> exact .of_eq rfl rfl
  | sync => dsimp only; split_ifs <;> exact .of_eq rfl rfl
  | header => exact storeKept_headerByte _ b s
  | body => exact .of_eq rfl rfl
  | check => exact storeKept_checkByte _ b s

theorem storeKept_framingError (late : Bool) (s : State) : StoreKept s (s.framingError late) := by
  unfold State.framingError
  split_ifs
  · exact storeKept_timeoutFrame s
  · exact .refl s

theorem storeKept_receiveCharacter (ch : Character) (s : State) : StoreKept s (s.receiveCharacter ch) := by
  unfold State.receiveCharacter
  split_ifs
  · exact .refl s
  · cases ch with
    | byte b => exact StoreKept.trans (t := s.characterEnds) (.of_eq rfl rfl) (storeKept_receiveByte b _)
    | framingError late => exact StoreKept.trans (t := s.characterEnds) (.of_eq rfl rfl) (storeKept_framingError late _)

theorem storeKept_characterTimesOut (s : State) : StoreKept s s.characterTimesOut := by
  unfold State.characterTimesOut
  split_ifs
  · exact storeKept_timeoutFrame s
  · exact .refl s

theorem storeKept_wakeByStartBit (s : State) : StoreKept s s.wakeByStartBit := ⟨rfl, rfl, rfl, rfl, nofun⟩

theorem storeKept_takeStartBit (s : State) : StoreKept s s.takeStartBit := by
  unfold State.takeStartBit
  split_ifs
  · exact .refl s
  · split
    · exact storeKept_wakeByStartBit s
    all_goals exact .of_eq rfl rfl

/-- A reset gives the store and the engine their reset values, and start-up follows. -/
theorem storeEffect_requestedReset (c : Instr) (rate : Level) (s t : State) : StoreEffect c s (t.requestedReset rate) :=
  .reset nofun rfl rfl

theorem storeEffect_receiveBreak (c : Instr) (rate : Level) (s : State) : StoreEffect c s (s.receiveBreak rate) := by
  unfold State.receiveBreak
  split_ifs with hlow hlisten
  · exact .kept (.refl s)
  all_goals dsimp only; split_ifs
  · exact storeEffect_requestedReset c rate s _
  · exact .kept ((storeKept_wakeByStartBit s).trans (.of_eq rfl rfl))
  · exact storeEffect_requestedReset c rate s _
  · exact .kept (.of_eq rfl rfl)

theorem storeEffect_endTransmission (c : Instr) (rate : Level) (s : State) :
    StoreEffect c s (s.endTransmission rate) := by
  unfold State.endTransmission
  split
  · exact .kept (.refl s)
  · dsimp only
    split_ifs
    · exact storeEffect_requestedReset c rate s _
    · exact .kept (.of_eq rfl rfl)

/-! ### Resets -/

theorem storeEffect_powerOn (c : Instr) (resetN rate : Level) (s : State) : StoreEffect c s (s.powerOn resetN rate) := by
  cases resetN <;> exact .reset nofun rfl rfl

theorem storeEffect_resetNLow (c : Instr) (s : State) : StoreEffect c s s.resetNLow := by
  unfold State.resetNLow
  split
  · exact .kept (.refl s)
  · exact .reset nofun rfl rfl
  · exact .reset nofun rfl rfl

theorem storeKept_resetNHigh (rate : Level) (s : State) : StoreKept s (s.resetNHigh rate) := by
  unfold State.resetNHigh
  split <;> exact .of_eq rfl rfl

theorem storeKept_endStartUp (s : State) : StoreKept s s.endStartUp := by
  unfold State.endStartUp
  split <;> exact .of_eq rfl rfl

/-! ### Events of the scan engine -/

/-- A scan start outside a scan makes a boundary between two scans. -/
theorem storeEffect_scanStart (c : Instr) {s u : State} (hs : u.store = s.store) (hn : ¬ InScan s) :
    StoreEffect c s u.scanStart :=
  .boundary (by rw [scanStart_store_atBoundary, hs]) fun h => hn h.1

theorem storeKept_enterSettling (s : State) : StoreKept s s.enterSettling := ⟨rfl, rfl, rfl, rfl, nofun⟩

theorem storeKept_overrun (s : State) : StoreKept s s.overrun := by
  refine StoreKept.latch ?_ _
  exact ⟨rfl, rfl, rfl, rfl, id⟩

theorem storeKept_missTrigger (s : State) : StoreKept s s.missTrigger := by
  refine StoreKept.latch ?_ _
  exact ⟨rfl, rfl, rfl, rfl, id⟩

theorem storeEffect_armingSettled (c : Instr) (s : State) : StoreEffect c s s.armingSettled := by
  unfold State.armingSettled
  split
  · next expiry hrun _ =>
    dsimp only
    split
    · exact storeEffect_scanStart c rfl (by simp [InScan, hrun])
    · exact .kept ⟨rfl, rfl, rfl, rfl, nofun⟩
  · exact .kept (.refl s)

theorem storeEffect_wakeSettled (c : Instr) (s : State) : StoreEffect c s s.wakeSettled := by
  unfold State.wakeSettled
  split
  · next expiry hrun _ => exact storeEffect_scanStart c rfl (by simp [InScan, hrun])
  · exact .kept (.refl s)

/-- A timer expiry, after its reload: the store and the engine's run state are those before it. -/
theorem storeEffect_onExpiry (c : Instr) {s u : State} (hu : StoreKept s u)
    (hr : u.engine.runState = s.engine.runState) : StoreEffect c s u.onExpiry := by
  unfold State.onExpiry
  split
  · next hrun => exact storeEffect_scanStart c hu.store (by simp [InScan, ← hr, hrun])
  · exact .kept (hu.trans (storeKept_enterSettling u))
  · exact .kept (hu.trans (storeKept_overrun u))
  · exact .kept (hu.trans (storeKept_overrun u))
  all_goals exact .kept hu

theorem storeEffect_timerExpires (c : Instr) (s : State) : StoreEffect c s s.timerExpires := by
  unfold State.timerExpires
  split
  · exact .kept (.refl s)
  · refine storeEffect_onExpiry c ?_ rfl
    exact ⟨rfl, rfl, rfl, rfl, id⟩

/-- A trigger taken, the qualifier back in IDLE: the store and the engine's run state are those before it. -/
theorem storeEffect_onTrigger (c : Instr) {s u : State} (hu : StoreKept s u)
    (hr : u.engine.runState = s.engine.runState) : StoreEffect c s u.onTrigger := by
  unfold State.onTrigger
  split
  · exact .kept hu
  · split
    · next hrun => exact storeEffect_scanStart c hu.store (by simp [InScan, ← hr, hrun])
    · exact .kept (hu.trans (storeKept_enterSettling u))
    · exact .kept (hu.trans (storeKept_missTrigger u))
    · exact .kept (hu.trans (storeKept_missTrigger u))
    · exact .kept (hu.trans (storeKept_missTrigger u))
    · exact .kept (hu.trans (storeKept_missTrigger u))
    · exact .kept hu

theorem storeEffect_takeTrigger (c : Instr) (s : State) : StoreEffect c s s.takeTrigger := by
  unfold State.takeTrigger
  split
  · exact .kept (.refl s)
  · refine storeEffect_onTrigger c ?_ rfl
    exact ⟨rfl, rfl, rfl, rfl, id⟩

/-! ### Conversions -/

theorem storeEffect_completeScan (c : Instr) (choice : Option Nat) {s u : State} (hu : StoreKept s u) :
    StoreEffect c s (u.completeScan choice) := by
  rw [completeScan_eq]
  split_ifs
  · refine .kept (hu.trans ⟨?_, ?_, ?_, ?_, nofun⟩) <;> simp [State.setRunState]
  · refine .boundary (by rw [enterStandby_store, completed_store, hu.store]) fun h => ?_
    simp [InScan] at h

theorem storeEffect_endSlot (c : Instr) (choice : Option Nat) (sl : SlotInFlight) {s u : State} (hu : StoreKept s u) :
    StoreEffect c s (u.endSlot choice sl) := by
  unfold State.endSlot
  dsimp only
  split
  · exact .kept ⟨hu.store, hu.scanEpoch, hu.snapshot, hu.scanCounter, hu.standby⟩
  · refine storeEffect_completeScan c choice ?_
    exact ⟨hu.store, hu.scanEpoch, hu.snapshot, hu.scanCounter, hu.standby⟩

theorem storeEffect_conversionEnds (c : Instr) (code : BitVec 24) (senseGood : Bool) (choice : Option Nat) (s : State) :
    StoreEffect c s (s.conversionEnds code senseGood choice) := by
  unfold State.conversionEnds
  split
  · exact .kept (.refl s)
  · next sl _ =>
    split_ifs
    · unfold State.endConversion
      dsimp only
      split
      · exact .kept (.of_eq rfl rfl)
      · exact storeEffect_endSlot c choice _ (.of_eq rfl rfl)
    · exact .kept (.refl s)

theorem storeKept_overcurrent (g : Group) (s : State) : StoreKept s (s.overcurrent g) := by
  unfold State.overcurrent
  split_ifs
  · exact .of_eq (latch_store ..) (latch_engine ..)
  · exact .refl s

/-! ### Every command -/

/-- What a command can do to the store, command by command. -/
theorem exec_storeEffect {c : Instr} {s t : State} (h : exec c s = .next t) : StoreEffect c s t := by
  cases c <;> obtain rfl := Host.Outcome.next.inj h
  case hello => exact storeEffect_execute fun f => storeEffect_hello _ f _
  case getState => exact storeEffect_execute fun f => .kept (.of_eq rfl rfl)
  case reset => exact storeEffect_execute fun f => .kept (.of_eq rfl rfl)
  case stage => exact storeEffect_execute fun f => storeEffect_stage _ f _
  case discard => exact storeEffect_execute fun f => storeEffect_discard _ f _
  case readConfig => exact storeEffect_execute fun f => .kept (storeKept_readConfig f _)
  case start => exact storeEffect_execute fun f => storeEffect_start _ f _
  case stop => exact storeEffect_execute fun f => storeEffect_stop _ f _
  case abort => exact storeEffect_execute fun f => storeEffect_abort _ f _
  case retrack => exact storeEffect_execute fun f => .kept (storeKept_retrack f _)
  case readTracker => exact storeEffect_execute fun f => .kept (storeKept_readTracker f _)
  case readResults => exact storeEffect_execute fun f => .kept (storeKept_readResults f _)
  case subscribe => exact storeEffect_execute fun f => .kept (storeKept_subscribe f _)
  case unsubscribe => exact storeEffect_execute fun f => .kept (storeKept_unsubscribe f _)
  case listSubscriptions => exact storeEffect_execute fun f => .kept (storeKept_listSubscriptions f _)
  case grant => exact storeEffect_execute fun f => .kept (storeKept_grant f _)
  case ackAlerts => exact storeEffect_execute fun f => .kept (storeKept_ackAlerts f _)
  case readAlerts => exact storeEffect_execute fun f => .kept (storeKept_readAlerts f _)
  case readCounters => exact storeEffect_execute fun f => .kept (.of_eq rfl rfl)
  case unknownKind => exact .kept (storeKept_unknown s)
  case duplicate => exact .kept (storeKept_duplicate s)
  case frameArrival b =>
    refine storeEffect_whileRunning (.kept ?_)
    split_ifs
    · exact StoreKept.trans (t := s.characterEnds) (.of_eq rfl rfl) (storeKept_receiveByte b _)
    · exact .refl s
  case lengthError b =>
    refine storeEffect_whileRunning (.kept ?_)
    split_ifs
    · exact StoreKept.trans (t := s.characterEnds) (.of_eq rfl rfl) (storeKept_lengthFault _)
    · exact .refl s
  case characterTimeout => exact storeEffect_whileRunning (.kept (storeKept_characterTimesOut s))
  case breakDetected rate => exact storeEffect_whileRunning (storeEffect_receiveBreak _ rate s)
  case breakEnd => exact storeEffect_whileRunning (.kept (.of_eq rfl rfl))
  case wake => exact storeEffect_whileRunning (.kept (storeKept_takeStartBit s))
  case wakeQuietEnd =>
    refine storeEffect_whileRunning (.kept ?_)
    split_ifs <;> exact .of_eq rfl rfl
  case arbiterChoice => exact .kept (.of_eq (arbiter_store s) (arbiter_engine s))
  case transmitEnd rate => exact storeEffect_whileRunning (storeEffect_endTransmission _ rate s)
  case powerOn resetN rate => exact storeEffect_powerOn _ resetN rate s
  case resetNLow => exact storeEffect_resetNLow _ s
  case resetNHigh rate => exact .kept (storeKept_resetNHigh rate s)
  case startUpEnd => exact .kept (storeKept_endStartUp s)
  case armingSettleEnd => exact storeEffect_whileRunning (storeEffect_armingSettled _ s)
  case timerExpiry => exact storeEffect_whileRunning (storeEffect_timerExpires _ s)
  case trigEdge direction => exact storeEffect_whileRunning (.kept ⟨rfl, rfl, rfl, rfl, id⟩)
  case trigger => exact storeEffect_whileRunning (storeEffect_takeTrigger _ s)
  case wakeSettleEnd => exact storeEffect_whileRunning (storeEffect_wakeSettled _ s)
  case syncPulseEnd => exact storeEffect_whileRunning (.kept ⟨rfl, rfl, rfl, rfl, id⟩)
  case conversionEnd code senseGood choice =>
    exact storeEffect_whileRunning (storeEffect_conversionEnds _ code senseGood choice s)
  case dozeEntry =>
    refine storeEffect_whileRunning (.kept ?_)
    split_ifs
    · exact ⟨rfl, rfl, rfl, rfl, nofun⟩
    · exact .refl s
  case overcurrent g => exact storeEffect_whileRunning (.kept (storeKept_overcurrent g s))
  case characterReceived ch => exact storeEffect_whileRunning (.kept (storeKept_receiveCharacter ch s))
  -- SEAL is left, whose constructor's name is a word of Lean and cannot stand after `case`.
  · exact storeEffect_execute fun f => storeEffect_seal f _

/-! ### Edits applied -/

theorem applyEdits_cons (c : Configuration) (e : Edit) (es : List Edit) :
    c.applyEdits (e :: es) = (c.put e.value e.field).applyEdits es := rfl

/-- Edits leave every field they do not name as it was (R20). -/
theorem get_applyEdits_of_unnamed {c : Configuration} {es : List Edit} {f : FieldRef} (h : ∀ e ∈ es, e.field ≠ f) :
    (c.applyEdits es).get f = c.get f := by
  induction es generalizing c with
  | nil => rfl
  | cons e es ih =>
    rw [applyEdits_cons, ih fun x hx => h x (List.mem_cons_of_mem _ hx),
      Configuration.get_put_ne (h e List.mem_cons_self)]

/-- Checked edits of distinct fields give each field its value (R13, R20). -/
theorem get_applyEdits_of_mem {c : Configuration} {es : List Edit} (hes : EditsLaw es) {e : Edit} (he : e ∈ es) :
    (c.applyEdits es).get e.field = e.value := by
  induction es generalizing c with
  | nil => cases he
  | cons x es ih =>
    obtain ⟨hne, hdistinct⟩ := List.pairwise_cons.1 hes.distinct
    rw [applyEdits_cons]
    rcases List.mem_cons.1 he with rfl | he
    · rw [get_applyEdits_of_unnamed fun y hy => (hne y hy).symm,
        Configuration.get_put_self (hes.checked e List.mem_cons_self)]
    · exact ih ⟨hdistinct, fun y hy => hes.checked y (List.mem_cons_of_mem _ hy)⟩ he

/-! ### The configuration law (R8, R9, R13 to R20) -/

/-- Every default lies in its field's range (R2, R4, R5, R7). -/
theorem inRange_reset : InRange ConfigStore.reset.live := by
  have device (f : DeviceField) : f.inRange (DeviceConfig.defaults.get f) = true := by cases f <;> decide
  have channel (n : Fin 16) (f : ChannelField) : f.inRange ((ChannelConfig.defaults n).get f) = true := by
    revert n; cases f <;> decide
  have slot (i : Fin 32) (f : SlotField) : f.inRange ((SlotConfig.defaults i).get f) = true := by
    revert i; cases f <;> decide
  rintro (f | ⟨n, f⟩ | ⟨i, f⟩)
  · exact device f
  · simpa [ConfigStore.reset, Configuration.defaults, Configuration.get, FieldRef.inRange] using channel n f
  · simpa [ConfigStore.reset, Configuration.defaults, Configuration.get, FieldRef.inRange] using slot i f

theorem storeLaw_reset (standby : Prop) : StoreLaw standby .reset where
  inRange := inRange_reset
  passes := (consistencyFault_eq_none _).1 (by decide +kernel)
  staging := editsLaw_nil
  staged := by decide
  epoch := nofun
  edits := nofun
  prospect := nofun
  noBatch _ := rfl

theorem storeLaw_atBoundary {p q : Prop} {st : ConfigStore} (h : StoreLaw p st) : StoreLaw q st.atBoundary := by
  cases hb : st.batch with
  | none =>
    rw [ConfigStore.atBoundary_of_none hb]
    exact { h with noBatch := fun _ => hb }
  | some b =>
    rw [ConfigStore.atBoundary_of_some hb]
    exact
      { inRange := inRange_applyEdits h.inRange (h.edits b hb).1.checked
        passes := h.prospect b hb
        staging := h.staging
        staged := h.staged
        epoch := nofun
        edits := nofun
        prospect := nofun
        noBatch := fun _ => rfl }

/-- A configuration law whose STANDBY mark is weakened. -/
theorem StoreLaw.mono {p q : Prop} {st : ConfigStore} (h : StoreLaw p st) (hpq : q → p) : StoreLaw q st :=
  { h with noBatch := h.noBatch ∘ hpq }

theorem storeLaw_restaged {p : Prop} {st : ConfigStore} {es : List Edit} (h : StoreLaw p st) (hes : EditsLaw es)
    (hl : es.length ≤ 64) : StoreLaw p { st with staging := es } :=
  { h with staging := hes, staged := hl }

theorem storeLaw_sealApplied {s : State} {p : Prop} (h : ConfigLaw s) (hpass : s.sealFault = none) :
    StoreLaw p ⟨s.store.prospective, nextEpoch s.store.epoch, [], none⟩ where
  inRange := inRange_applyEdits h.inRange h.staging.checked
  passes := (sealFault_eq_none.1 hpass).2.2.2
  staging := editsLaw_nil
  staged := by simp
  epoch := nofun
  edits := nofun
  prospect := nofun
  noBatch _ := rfl

theorem storeLaw_sealWaits {s : State} (h : ConfigLaw s) (hpass : s.sealFault = none)
    (haway : s.engine.runState ≠ .standby) :
    StoreLaw (s.engine.runState = .standby) { s.store with staging := [], batch := some s.store.sealedBatch } := by
  obtain ⟨-, -, hedits, hchecks⟩ := sealFault_eq_none.1 hpass
  exact
    { inRange := h.inRange
      passes := h.passes
      staging := editsLaw_nil
      staged := by simp
      epoch := by rintro _ ⟨⟩; rfl
      edits := by rintro _ ⟨⟩; exact ⟨h.staging, hedits.resolve_left haway⟩
      prospect := by rintro _ ⟨⟩; exact hchecks
      noBatch := fun hs => absurd hs haway }

theorem StoreEffect.configLaw {c : Instr} {s t : State} (h : StoreEffect c s t) (hs : ConfigLaw s) : ConfigLaw t := by
  unfold ConfigLaw
  cases h with
  | kept hk => rw [hk.store]; exact hs.mono hk.standby
  | restaged es store engine law length =>
    rw [store, engine]; exact storeLaw_restaged hs (law hs.staging) length
  | boundary store _ => rw [store]; exact storeLaw_atBoundary hs
  | reset _ store _ => rw [store]; exact storeLaw_reset _
  | applied _ passes _ store _ => rw [store]; exact storeLaw_sealApplied hs passes
  | sealed passes away store engine => rw [store, engine]; exact storeLaw_sealWaits hs passes away

/-- Settles O55: every effect of a command on the store keeps the law. -/
theorem configLawKept : Obligations.ConfigLawKept := by
  intro s t hs hstep
  unfold step at hstep
  split at hstep
  · cases hstep; exact hs
  · next i _ _ => exact (exec_storeEffect hstep).configLaw (s := s.popFront) hs

/-! ### The configuration over a scan, and its changes -/

/-- Settles O59: a command that makes a boundary, a reset or an application within SEAL has no scan in progress before it or
after it. -/
theorem oneConfigurationPerScan : Obligations.OneConfigurationPerScan := by
  intro c s t h hs ht
  cases exec_storeEffect h with
  | kept hk => exact ⟨by rw [hk.store], by rw [hk.store], hk.scanEpoch, hk.snapshot, hk.scanCounter⟩
  | restaged es store engine _ _ => simp [store, engine]
  | boundary _ between => exact absurd ⟨hs, ht⟩ between
  | reset _ _ engine => simp [InScan, engine, ScanEngine.reset] at ht
  | applied _ _ standby _ _ => simp [InScan, standby] at hs
  | sealed _ _ store engine => simp [store, engine]

/-- The four ways in which a command leaves the live configuration and its epoch. -/
theorem StoreEffect.live_cases {c : Instr} {s t : State} (h : StoreEffect c s t) :
    (t.store.live = s.store.live ∧ t.store.epoch = s.store.epoch) ∨
      (t.phase ≠ .running ∧ t.store.live = .defaults ∧ t.store.epoch = 0) ∨
      (∃ b, s.store.batch = some b ∧ t.store.live = s.store.live.applyEdits b.edits ∧ t.store.epoch = b.epoch ∧
        t.store.batch = none) ∨
      (c = .seal ∧ s.engine.runState = .standby ∧ t.store.live = s.store.live.applyEdits s.store.staging ∧
        t.store.epoch = (if s.store.epoch = 65535 then 1 else s.store.epoch + 1) ∧ t.store.batch = none) := by
  cases h with
  | kept hk => exact .inl (by simp [hk.store])
  | restaged es store _ _ _ => exact .inl (by simp [store])
  | boundary store _ =>
    cases hb : s.store.batch with
    | none => exact .inl (by simp [store, ConfigStore.atBoundary_of_none hb])
    | some b => exact .inr (.inr (.inl ⟨b, rfl, by simp [store, ConfigStore.atBoundary_of_some hb]⟩))
  | reset phase store _ => exact .inr (.inl ⟨phase, by simp [store, ConfigStore.reset]⟩)
  | applied command _ standby store _ => exact .inr (.inr (.inr ⟨command, standby, by rw [store]; exact ⟨rfl, rfl, rfl⟩⟩))
  | sealed _ _ store _ => exact .inl (by simp [store])

/-- Settles O60: outside STANDBY only a waiting batch changes the configuration while the part runs, and it holds no
standby-only edit. -/
theorem configurationChangesOnlyByApplication : Obligations.ConfigurationChangesOnlyByApplication := by
  intro c s t h
  have hlive := (exec_storeEffect h).live_cases
  refine ⟨hlive, fun hlaw haway hrun f hf => ?_⟩
  rcases hlive with ⟨hl, -⟩ | ⟨hp, -⟩ | ⟨b, hb, hl, -⟩ | ⟨-, hs, -⟩
  · rw [hl]
  · exact absurd hrun hp
  · rw [hl]
    refine get_applyEdits_of_unnamed fun e he hef => ?_
    have := (hlaw.edits b hb).2 e he
    rw [hef, hf] at this
    cases this
  · exact absurd hs haway

end Sys2Proof.Machine
end

section
/-! PROOFS. The requests of the configuration store: STAGE (R10, R11, R187), SEAL (R13 to R18, R186) and READ_CONFIG (R24, R25,
R179), and the application of a batch (R20, R21). -/

namespace Sys2Proof.Machine

/-! ### Answers to an admitted request -/

/-- The refusal of a request is the reply of R170, which names its kind. -/
theorem takeHead_refuse {k : RequestKind} {f : Frame} (hk : f.kind = k.code) (r : Rejection) (s : State) :
    s.takeHead.refuse k f r = refusedWith f r.status.code (byteOf r.check) (byteOf r.index) s := by
  rw [State.refuse, takeHead_answer, refusedWith, hk]; rfl

theorem exec_stage_of_admits {f : Frame} {s : State} (h : Admits .stage f s) :
    exec .stage s = .next (ownStage f s.takeHead) :=
  congrArg Host.Outcome.next (execute_of_admits h)

theorem exec_seal_of_admits {f : Frame} {s : State} (h : Admits .seal f s) :
    exec .seal s = .next (ownSeal f s.takeHead) :=
  congrArg Host.Outcome.next (execute_of_admits h)

theorem exec_readConfig_of_admits {f : Frame} {s : State} (h : Admits .readConfig f s) :
    exec .readConfig s = .next (ownReadConfig f s.takeHead) :=
  congrArg Host.Outcome.next (execute_of_admits h)

/-! ### STAGE: the checks of R10 -/

/-- An edit as a STAGE descriptor carries it. -/
def Edit.raw (e : Edit) : RawEdit := ⟨byteOf e.field.target.code, byteOf e.field.id, e.value⟩

theorem checkEdit_raw (seq : Byte) (pos : Nat) {e : Edit} (h : e.field.inRange e.value = true) :
    checkEdit seq pos e.raw = .ok { e with seq := seq } := by
  simp [checkEdit, Edit.raw, toNat_byteOf (Target.code_lt _), toNat_byteOf (FieldRef.id_lt _), fieldOfId_id, h]

/-- Edits that pass are read back, with the SEQ of the request. -/
theorem checkEdits_raw (seq : Byte) (pos : Nat) {es : List Edit} (h : ∀ e ∈ es, e.field.inRange e.value = true) :
    checkEdits seq pos (es.map Edit.raw) = .ok (es.map fun e => { e with seq := seq }) := by
  induction es generalizing pos with
  | nil => rfl
  | cons e es ih =>
    simp only [List.map_cons, checkEdits, checkEdit_raw seq pos (h e List.mem_cons_self),
      ih (pos + 1) fun x hx => h x (List.mem_cons_of_mem _ hx)]

/-- The first descriptor that fails refuses the request with its position. -/
theorem checkEdits_fails (seq : Byte) (pos : Nat) {es : List Edit} (h : ∀ e ∈ es, e.field.inRange e.value = true)
    {r : RawEdit} {e : Rejection} (hr : checkEdit seq (pos + es.length) r = .error e) (rest : List RawEdit) :
    checkEdits seq pos (es.map Edit.raw ++ r :: rest) = .error e := by
  induction es generalizing pos with
  | nil => simp only [List.map_nil, List.nil_append, checkEdits]; rw [show checkEdit seq pos r = .error e from hr]
  | cons x es ih =>
    have := ih (pos + 1) (fun y hy => h y (List.mem_cons_of_mem _ hy))
      (by rw [← hr, List.length_cons, Nat.add_right_comm, Nat.add_assoc])
    simp only [List.map_cons, List.cons_append, checkEdits, checkEdit_raw seq pos (h x List.mem_cons_self), this]

theorem rawEdits_of_inRange {es : List Edit} (h : ∀ e ∈ es, e.field.inRange e.value = true) (rest : List Byte) :
    rawEdits (es.flatMap Edit.descriptor ++ rest) = es.map Edit.raw ++ rawEdits rest :=
  rawEdits_descriptors es rest fun e he => fourBytes_of_inRange (h e he)

/-! ### STAGE: the set that results (R11) -/

/-- Edits placed one after another leave what none of them replaces, and the last of them for each field. -/
theorem placeEdits_eq_stagedAfter (staging es : List Edit) : placeEdits staging es = stagedAfter staging es := by
  induction es generalizing staging with
  | nil => simp [placeEdits, stagedAfter, lastOfEach]
  | cons e es ih =>
    have hplace : placeEdits staging (e :: es) = placeEdits (placeEdit staging e) es := rfl
    rw [hplace, ih]
    simp only [stagedAfter, placeEdit, List.filter_append, List.filter_filter, List.all_cons, lastOfEach, List.append_assoc]
    congr 1
    · refine List.filter_congr fun x _ => ?_
      rw [Bool.and_comm]
      simp only [ne_comm]
    · rw [List.filter_singleton]
      by_cases hany : ∃ x ∈ es, x.field = e.field
      · have hall : (es.all fun x => decide (x.field ≠ e.field)) = false := by simpa using hany
        rw [hall, if_pos (by simpa using hany)]
        rfl
      · have hall : (es.all fun x => decide (x.field ≠ e.field)) = true := by simpa using hany
        rw [hall, if_neg (by simpa using hany)]
        rfl

/-- Settles O8: the edits of an admitted request read back, and what they make of the staging set is `stagedAfter`. -/
theorem stageReplacesAndAppends : Obligations.StageReplacesAndAppends := by
  intro s f es hadm hbody hes
  have hread : checkEdits f.seq 0 (rawEdits f.body) = .ok es := by
    have hseq : es.map (fun e => { e with seq := f.seq }) = es :=
      (List.map_congr_left fun e he => by rw [← (hes e he).2]; rfl).trans (List.map_id es)
    rw [hbody, ← List.append_nil (es.flatMap _), rawEdits_of_inRange fun e he => (hes e he).1]
    simp only [rawEdits, List.append_nil]
    rw [checkEdits_raw f.seq 0 fun e he => (hes e he).1, hseq]
  rw [exec_stage_of_admits hadm]
  simp only [ownStage, hread, State.takeHead_store, placeEdits_eq_stagedAfter, Config.stagedEdits]
  constructor
  · intro hle
    rw [if_neg (by omega)]
    rfl
  · intro hge
    rw [if_pos (by omega), takeHead_refuse hadm.named]
    rfl

/-- A STAGE is refused with what its checks find. -/
theorem exec_stage_refused {f : Frame} {s : State} (hadm : Admits .stage f s) {r : Rejection}
    (h : checkEdits f.seq 0 (rawEdits f.body) = .error r) :
    exec .stage s = .next (refusedWith f r.status.code (byteOf r.check) (byteOf r.index) s) := by
  rw [exec_stage_of_admits hadm, ← takeHead_refuse hadm.named]
  simp only [ownStage, h]

theorem checkEdit_badTarget (seq : Byte) (pos : Nat) {r : RawEdit} (h : ∀ target : Target, target.code ≠ r.target.toNat) :
    checkEdit seq pos r = .error ⟨.badTarget, 0, pos⟩ := by
  simp [checkEdit, targetOfCode_eq_none.2 h]

theorem checkEdit_badField (seq : Byte) (pos : Nat) {r : RawEdit} {target : Target} (ht : target.code = r.target.toNat)
    (h : ∀ field : FieldRef, field.target = target → field.id ≠ r.field.toNat) :
    checkEdit seq pos r = .error ⟨.badField, 0, pos⟩ := by
  simp [checkEdit, targetOfCode_eq_some.2 ht, fieldOfId_eq_none.2 h]

theorem checkEdit_outOfRange (seq : Byte) (pos : Nat) {r : RawEdit} {field : FieldRef}
    (ht : field.target.code = r.target.toNat) (hf : field.id = r.field.toNat) (h : field.inRange r.value = false) :
    checkEdit seq pos r = .error ⟨.outOfRange, 0, pos⟩ := by
  simp [checkEdit, targetOfCode_eq_some.2 ht, fieldOfId_eq_some.2 ⟨rfl, hf⟩, h]

/-- The first descriptor of a STAGE that fails refuses it, with its position (R10). -/
theorem exec_stage_refused_at {f : Frame} {s : State} (hadm : Admits .stage f s) {es : List Edit}
    {t d v3 v2 v1 v0 : Byte} {rest : List Byte}
    (hbody : f.body = es.flatMap Edit.descriptor ++ [t, d, v3, v2, v1, v0] ++ rest)
    (hes : ∀ e ∈ es, e.field.inRange e.value = true) {status : Status}
    (h : checkEdit f.seq es.length ⟨t, d, intOfBytes4 v3 v2 v1 v0⟩ = .error ⟨status, 0, es.length⟩) :
    exec .stage s = .next (refusedWith f status.code 0 (byteOf es.length) s) := by
  refine exec_stage_refused hadm (r := ⟨status, 0, es.length⟩) ?_
  rw [hbody, List.append_assoc, rawEdits_of_inRange hes]
  exact checkEdits_fails f.seq 0 hes (by rwa [Nat.zero_add]) (rawEdits rest)

/-- Settles O9: the three checks of a descriptor, after the descriptors before it have passed, and the catalogue they read. -/
theorem stageRefusals : Obligations.StageRefusals := by
  refine ⟨fun s f es t d v3 v2 v1 v0 rest hadm hbody hes => ⟨fun ht => ?_, fun target ht => ⟨fun hd => ?_, ?_⟩⟩,
    fun target => ?_, fun field => ?_, fun field v => ?_, fun field => ?_⟩
  · exact exec_stage_refused_at hadm hbody hes (checkEdit_badTarget _ _ ht)
  · exact exec_stage_refused_at hadm hbody hes (checkEdit_badField _ _ ht hd)
  · rintro field rfl hid hrange
    exact exec_stage_refused_at hadm hbody hes (checkEdit_outOfRange _ _ ht hid hrange)
  · cases target <;> rfl
  · rcases field with f | ⟨n, f⟩ | ⟨i, f⟩ <;> cases f <;> rfl
  · rcases field with f | ⟨n, f⟩ | ⟨i, f⟩ <;> cases f <;>
      simp [FieldRef.inRange, DeviceField.inRange, ChannelField.inRange, SlotField.inRange, within] <;> omega
  · rcases field with f | ⟨n, f⟩ | ⟨i, f⟩ <;> cases f <;> simp [FieldRef.standbyOnly]

/-! ### SEAL -/

/-- A SEAL is refused with the fault its checks find. -/
theorem exec_seal_refused {f : Frame} {s : State} (hadm : Admits .seal f s) {r : Rejection} (h : s.sealFault = some r) :
    exec .seal s = .next (refusedWith f r.status.code (byteOf r.check) (byteOf r.index) s) := by
  have htaken : s.takeHead.sealFault = some r := h
  rw [exec_seal_of_admits hadm, ← takeHead_refuse hadm.named]
  simp only [ownSeal, htaken]

/-- Settles O11: a SEAL without a fault applies its batch in STANDBY and leaves it waiting elsewhere. -/
theorem sealSucceeds : Obligations.SealSucceeds := by
  rintro s f epoch hadm hstaged hbatch hchecks rfl
  have taken (hstate : s.engine.runState = .standby ∨ ∀ e ∈ s.store.staging, e.field.standbyOnly = false) :
      s.takeHead.sealFault = none := sealFault_eq_none.2 ⟨hstaged, hbatch, hstate, hchecks⟩
  rw [exec_seal_of_admits hadm]
  constructor
  · intro hstandby
    simp only [ownSeal, taken (.inl hstandby), State.takeHead_engine, hstandby, ↓reduceIte]
    rw [applyBatch_eq_latched, applyBatch_eq_latched]
    rfl
  · intro haway hedits
    simp only [ownSeal, taken (.inr hedits), State.takeHead_engine, haway, ↓reduceIte]
    rfl

/-- The position of the first edit that may be sealed only in STANDBY (R14). -/
theorem sealStateFault_of_first {r : RunState} (hr : r ≠ .standby) {before after : List Edit} {e : Edit}
    (hb : ∀ x ∈ before, x.field.standbyOnly = false) (he : e.field.standbyOnly = true) :
    sealStateFault r (before ++ e :: after) = some before.length := by
  rw [sealStateFault, if_neg hr, List.findIdx?_append, List.findIdx?_eq_none_iff.2 (by simpa using hb)]
  simp [List.findIdx?_cons, he]

/-- Settles O12: the refusals in their order, each the fault that `sealFault` finds first. -/
theorem sealRefusals : Obligations.SealRefusals := by
  intro s f hadm
  refine ⟨fun hempty => ?_, fun hstaged hbatch => ?_, fun hbatch haway before e after hsplit hb he => ?_,
    fun hstaged hbatch hstate check index hfails hfirst => ?_⟩
  · exact exec_seal_refused hadm (r := ⟨.empty, 0, noIndex⟩) (by simp [State.sealFault, hempty])
  · exact exec_seal_refused hadm (r := ⟨.batchPending, 0, noIndex⟩) (by simp [State.sealFault, hstaged, hbatch])
  · have hfault := sealStateFault_of_first (after := after) haway hb he
    exact exec_seal_refused hadm (r := ⟨.wrongState, 1, before.length⟩)
      (by simp [State.sealFault, hbatch, hsplit, hfault])
  · have hfault := consistencyFault_of_first hfails hfirst
    exact exec_seal_refused hadm (r := ⟨.inconsistent, check, index⟩)
      (by simp [State.sealFault, hstaged, hbatch, sealStateFault_eq_none.2 hstate, ConfigStore.prospective, hfault])

/-! ### READ_CONFIG -/

@[simp] theorem View.ofCode_code (v : View) : View.ofCode v.code = some v := by cases v <;> rfl

/-- An item of READ_CONFIG as the request carries it. -/
def ConfigItem.raw : ConfigItem → Byte × Byte
  | .whole t => (byteOf t.code, 0)
  | .one f => (byteOf f.target.code, byteOf f.id)

theorem rawItems_flatMap_bytes (items : List ConfigItem) (rest : List Byte) :
    rawItems (items.flatMap ConfigItem.bytes ++ rest) = items.map ConfigItem.raw ++ rawItems rest := by
  rw [rawItems_bytes]
  congr 1

theorem itemFields_raw (pos : Nat) (i : ConfigItem) : itemFields pos i.raw = .ok i.fields := by
  cases i with
  | whole t => simp [itemFields, ConfigItem.raw, ConfigItem.fields, toNat_byteOf t.code_lt]
  | one f =>
    have hne : byteOf f.id ≠ 0 := fun h => by
      have := congrArg BitVec.toNat h
      rw [toNat_byteOf f.id_lt] at this
      exact absurd this f.id_pos.ne'
    simp only [itemFields, ConfigItem.raw, ConfigItem.fields, toNat_byteOf (Target.code_lt _), targetOfCode_code, if_neg hne,
      toNat_byteOf f.id_lt, fieldOfId_id]

/-- Items that name targets and fields stand for their fields in item order (R24, R25). -/
theorem itemsFields_raw (pos : Nat) (items : List ConfigItem) :
    itemsFields pos (items.map ConfigItem.raw) = .ok (items.flatMap ConfigItem.fields) := by
  induction items generalizing pos with
  | nil => rfl
  | cons i items ih => simp only [List.map_cons, itemsFields, itemFields_raw, ih, List.flatMap_cons]

/-- The first item that fails refuses the request with its position. -/
theorem itemsFields_fails (pos : Nat) (items : List ConfigItem) {item : Byte × Byte} {e : Rejection}
    (h : itemFields (pos + items.length) item = .error e) (rest : List (Byte × Byte)) :
    itemsFields pos (items.map ConfigItem.raw ++ item :: rest) = .error e := by
  induction items generalizing pos with
  | nil => simp only [List.map_nil, List.nil_append, itemsFields]; rw [show itemFields pos item = .error e from h]
  | cons i items ih =>
    have := ih (pos + 1) (by rw [← h, List.length_cons, Nat.add_right_comm, Nat.add_assoc])
    simp only [List.map_cons, List.cons_append, itemsFields, itemFields_raw, this]

theorem overlay_eq_shownEdits (st : ConfigStore) (v : View) : st.overlay v = shownEdits st v := by
  cases v <;> cases h : st.batch <;> simp [ConfigStore.overlay, shownEdits, h]

theorem fieldBytes_eq_shownField (st : ConfigStore) (v : View) (f : FieldRef) : st.fieldBytes v f = shownField st v f := by
  unfold ConfigStore.fieldBytes ConfigStore.fieldInView shownField
  rw [overlay_eq_shownEdits]
  cases (shownEdits st v).find? fun e => decide (e.field = f) <;> rfl

/-- A READ_CONFIG is refused with what the checks of its operands find. -/
theorem exec_readConfig_refused {f : Frame} {s : State} (hadm : Admits .readConfig f s) {r : Rejection}
    (h : readConfigOperands s.store f.body = .error r) :
    exec .readConfig s = .next (refusedWith f r.status.code (byteOf r.check) (byteOf r.index) s) := by
  rw [exec_readConfig_of_admits hadm, ← takeHead_refuse hadm.named]
  simp only [ownReadConfig, State.takeHead_store, h]

/-- The reply of a READ_CONFIG whose operands pass (R179). -/
theorem exec_readConfig_of_operands {f : Frame} {s : State} (hadm : Admits .readConfig f s) {v : View}
    {fs : List FieldRef} (h : readConfigOperands s.store f.body = .ok (v, fs)) :
    exec .readConfig s = .next
      (answered f 0x87
        ([0x00, v.code] ++ bytes2 s.store.epoch ++ bytes2 s.store.batchEpoch ++
          [byteOf s.store.staging.length, byteOf fs.length] ++ fs.flatMap (shownField s.store v)) s) := by
  have hfields : s.store.fieldBytes v = shownField s.store v := funext (fieldBytes_eq_shownField s.store v)
  rw [exec_readConfig_of_admits hadm]
  simp only [ownReadConfig, State.takeHead_store, h, hfields, List.append_assoc]
  rfl

/-- The operands of a READ_CONFIG whose items name targets and fields: what is left to check is their number and the view. -/
theorem readConfigOperands_items (st : ConfigStore) (v : View) (items : List ConfigItem) :
    readConfigOperands st (v.code :: items.flatMap ConfigItem.bytes) =
      if 24 < (items.flatMap ConfigItem.fields).length then .error ⟨.outOfRange, 0, noIndex⟩
      else if v = .sealed ∧ st.batch = none then .error ⟨.notFound, 0, noIndex⟩
      else .ok (v, items.flatMap ConfigItem.fields) := by
  have hitems : itemsFields 0 (rawItems (items.flatMap ConfigItem.bytes)) = .ok (items.flatMap ConfigItem.fields) := by
    rw [← List.append_nil (items.flatMap ConfigItem.bytes), rawItems_flatMap_bytes]
    simpa [rawItems] using itemsFields_raw 0 items
  simp only [readConfigOperands, View.ofCode_code, hitems]
  rfl

/-- The first item of a READ_CONFIG that fails refuses it. -/
theorem readConfigOperands_fails (st : ConfigStore) (v : View) (items : List ConfigItem) {t d : Byte} {e : Rejection}
    (h : itemFields items.length (t, d) = .error e) (rest : List Byte) :
    readConfigOperands st (v.code :: (items.flatMap ConfigItem.bytes ++ [t, d] ++ rest)) = .error e := by
  have hitems : itemsFields 0 (rawItems (items.flatMap ConfigItem.bytes ++ [t, d] ++ rest)) = .error e := by
    rw [List.append_assoc, rawItems_flatMap_bytes]
    exact itemsFields_fails 0 items (by rwa [Nat.zero_add]) (rawItems rest)
  simp only [readConfigOperands, View.ofCode_code, hitems]

/-- Settles O13: the reply lists the view's fields, and the operands' checks refuse in their order. -/
theorem readConfigShowsView : Obligations.ReadConfigShowsView := by
  refine ⟨fun s f v items hadm hbody => ?_, fun s f v rest hadm hbody hv => ?_,
    fun s f v items t d rest hadm hbody => ⟨fun ht => ?_, fun target ht hd hfield => ?_⟩⟩
  · have hops := readConfigOperands_items s.store v items
    rw [← hbody] at hops
    refine ⟨fun hle hsealed => ?_, fun hge => ?_, fun hle hv hbatch => ?_⟩
    · rw [if_neg (by omega), if_neg fun h => hsealed h.1 h.2] at hops
      rw [exec_readConfig_of_operands hadm hops, ConfigStore.batchEpoch]
      cases s.store.batch <;> rfl
    · rw [if_pos (by omega)] at hops
      exact exec_readConfig_refused hadm hops
    · rw [if_neg (by omega), if_pos ⟨hv, hbatch⟩] at hops
      exact exec_readConfig_refused hadm hops
  · refine exec_readConfig_refused hadm (r := ⟨.outOfRange, 0, noIndex⟩) ?_
    have hnone : View.ofCode v = none := by
      have (k : Byte) (hk : k.toNat < 3) : v ≠ k := fun h => by rw [h] at hv; omega
      rw [View.ofCode, if_neg (this 0 (by decide)), if_neg (this 1 (by decide)), if_neg (this 2 (by decide))]
    simp only [hbody, readConfigOperands, hnone]
  · refine exec_readConfig_refused hadm (r := ⟨.badTarget, 0, items.length⟩) ?_
    rw [hbody]
    exact readConfigOperands_fails s.store v items (by simp [itemFields, targetOfCode_eq_none.2 ht]) rest
  · refine exec_readConfig_refused hadm (r := ⟨.badField, 0, items.length⟩) ?_
    rw [hbody]
    exact readConfigOperands_fails s.store v items
      (by simp only [itemFields, targetOfCode_eq_some.2 ht, if_neg hd, fieldOfId_eq_none.2 hfield]) rest

/-! ### The application of a batch -/

/-- The qualifier goes on exactly where trigger_edge and trigger_min_width stay as they are (R34). -/
theorem qualifier_applied_eq (old new : DeviceConfig) (q : Qualifier) :
    q.applied old new =
      if old.triggerEdge = new.triggerEdge ∧ old.triggerMinWidth = new.triggerMinWidth then q else .idle := by
  unfold Qualifier.applied
  by_cases h : old.triggerEdge = new.triggerEdge ∧ old.triggerMinWidth = new.triggerMinWidth
  · rw [if_pos h, if_neg (by simpa using h)]
  · rw [if_neg h, if_pos (not_and_or.1 h)]

/-- Settles O40: an application is a write of four fields and the clamps' latches; edits of distinct fields do not disturb each
other. -/
theorem batchApplication : Obligations.BatchApplication := by
  refine ⟨fun b s new hnew after hafter => ?_, fun c es hes =>
    ⟨fun e he => get_applyEdits_of_mem hes he, fun f hf => get_applyEdits_of_unnamed hf⟩⟩
  subst hnew
  obtain rfl : after =
      trackerApplied s.store.live (s.store.live.applyEdits b.edits) s.engine.scanCounter s.trackers := funext hafter
  rw [applyBatch_eq_latched, qualifier_applied_eq]
  rfl

end Sys2Proof.Machine
end

section
/-! PROOFS. A scan completion (R40, R41, R44, R53, R63, R66, R76, R104, R111, R118): the state in which its arrivals begin, the
arrivals with and without a choice of the arbiter among them, and the state it leaves. -/

namespace Sys2Proof.Machine

/-! ### Entry into STANDBY with no batch waiting -/

theorem rest_eq_restedDriver (d : DriverState) : d.rest = restedDriver d := by cases d <;> rfl

theorem enterStandby_eq_inStandby {s : State} (h : s.store.batch = none) : s.enterStandby = inStandby s := by
  have hboundary : s.restEngine.boundary = s.restEngine := by
    rcases boundary_cases s.restEngine with ⟨-, hb⟩ | ⟨b, hb, -⟩
    · exact hb
    · rw [State.restEngine_store, h] at hb; cases hb
  rw [State.enterStandby, hboundary, inStandby, ← rest_eq_restedDriver, ← rest_eq_restedDriver]
  rfl

/-! ### Where a completion ends (R41) -/

theorem limitReached_iff (e : ScanEngine) :
    e.limitReached = true ↔ 1 ≤ e.scanLimit ∧ e.scansSinceStart.toNat = e.scanLimit := by
  simp [ScanEngine.limitReached, Nat.succ_le_iff]

theorem completeScan_of_goes_on {s : State} (choice : Option Nat) (hrun : s.engine.runState = .scanning)
    (hlimit : s.engine.scanLimit = 0 ∨ (s.engine.scansSinceStart + 1).toNat ≠ s.engine.scanLimit) :
    s.completeScan choice = (s.completed choice).setRunState .waiting := by
  have hgo : ({ s.engine with scansSinceStart := s.engine.scansSinceStart + 1 } : ScanEngine).limitReached = false := by
    rw [← Bool.not_eq_true, limitReached_iff]
    rintro ⟨h1, h2⟩
    exact hlimit.elim (Nat.ne_of_gt h1) fun h => h h2
  rw [completeScan_eq, if_pos ⟨hrun, hgo⟩]

theorem completeScan_of_ends {s : State} (choice : Option Nat)
    (hend : s.engine.runState = .draining ∨
      1 ≤ s.engine.scanLimit ∧ (s.engine.scansSinceStart + 1).toNat = s.engine.scanLimit) :
    s.completeScan choice = (s.completed choice).enterStandby := by
  rw [completeScan_eq, if_neg]
  rintro ⟨hrun, hlimit⟩
  rw [← Bool.not_eq_true, limitReached_iff] at hlimit
  rcases hend with h | h
  · rw [hrun] at h; cases h
  · exact hlimit h

/-! ### Arrivals -/

/-- The records of a completion arrive one after another. -/
def State.arriveEach (rs : List ReportRecord) (s : State) : State := rs.foldl (fun u r => u.arrive r) s

/-- A choice that falls on no place between two arrivals is none (log entry 14). -/
theorem arriveAll_of_no_choice {choice : Option Nat} {done : Nat} {rs : List ReportRecord}
    (h : ∀ k, choice = some k → k ≤ done ∨ done + rs.length ≤ k) (s : State) :
    s.arriveAll choice done rs = s.arriveEach rs := by
  induction rs generalizing done s with
  | nil => rfl
  | cons r rest ih =>
    cases rest with
    | nil => rfl
    | cons r' rest =>
      have hne : choice ≠ some (done + 1) := fun hc => by
        have := h _ hc
        simp only [List.length_cons] at this
        omega
      have hnext : ∀ k, choice = some k → k ≤ done + 1 ∨ done + 1 + (r' :: rest).length ≤ k := fun k hk => by
        have := h k hk
        simp only [List.length_cons] at this ⊢
        omega
      simp only [State.arriveAll, if_neg hne]
      exact ih hnext (s.arrive r)

/-- A choice between two arrivals stands after those before it (R118). -/
theorem arriveAll_of_choice {k done : Nat} {rs : List ReportRecord} (hk : 1 ≤ k) (hlt : k < rs.length) (s : State) :
    s.arriveAll (some (done + k)) done rs = (s.arriveEach (rs.take k)).arbiter.arriveEach (rs.drop k) := by
  induction rs generalizing done k s with
  | nil => exact absurd hlt (Nat.not_lt_zero _)
  | cons r rest ih =>
    cases rest with
    | nil => simp at hlt; omega
    | cons r' rest =>
      obtain ⟨j, rfl⟩ : ∃ j, k = j + 1 := ⟨k - 1, by omega⟩
      cases j with
      | zero =>
        simp only [State.arriveAll, Nat.zero_add, if_true]
        exact arriveAll_of_no_choice (fun k hc => .inl (by cases hc; exact Nat.le_refl _)) _
      | succ j =>
        have hne : (some (done + (j + 1 + 1)) : Option Nat) ≠ some (done + 1) := fun hc => by
          have := Option.some.inj hc
          omega
        simp only [State.arriveAll, if_neg hne]
        rw [show done + (j + 1 + 1) = done + 1 + (j + 1) by omega]
        exact ih (by omega) (by simpa using hlt) (s.arrive r)

/-- A record that finds a queue with entries full leaves their number (R120, R121). -/
theorem length_queue_overflow (r : ReportRecord) {q : ReportSide} (h : q.queue ≠ []) :
    (q.overflow r).queue.length = q.queue.length := by
  unfold ReportSide.overflow
  cases q.policy with
  | dropNewest => rfl
  | dropOldest =>
    cases hq : q.queue with
    | nil => exact absurd hq h
    | cons e rest => cases e <;> simp

theorem length_queue_arrive (r : ReportRecord) (q : ReportSide) :
    (q.arrive r).queue.length = if q.full then q.queue.length else q.queue.length + 1 := by
  unfold ReportSide.arrive
  split_ifs with hf
  · refine length_queue_overflow r fun hnil => ?_
    have h48 := (full_iff q).1 hf
    rw [show q.queue = [] from hnil] at h48
    simp at h48
  · simp

/-- Arrivals one after another: the report side takes each, and each that finds the queue full latches REPORT_LOSS (R130). -/
theorem arriveEach_eq_latched (rs : List ReportRecord) (s : State) :
    s.arriveEach rs =
      latched (List.replicate (rs.length - (48 - s.report.queue.length)) .reportLoss)
        { s with report := rs.foldl (fun q r => q.arrive r) s.report } := by
  induction rs generalizing s with
  | nil => simp [State.arriveEach]
  | cons r rest ih =>
    have hfirst : s.arriveEach (r :: rest) = (s.arrive r).arriveEach rest := rfl
    rw [hfirst, ih, arrive_report, length_queue_arrive, arrive_eq_latched]
    have hiff := full_iff s.report
    split_ifs with hf
    · have hcount : (r :: rest).length - (48 - s.report.queue.length) =
          rest.length - (48 - s.report.queue.length) + 1 := by
        have := hiff.1 hf
        simp only [List.length_cons]
        omega
      rw [hcount, List.replicate_succ, latched_cons .reportLoss (List.replicate _ _)]
      rfl
    · have hcount : (r :: rest).length - (48 - s.report.queue.length) =
          rest.length - (48 - (s.report.queue.length + 1)) := by
        have := mt hiff.2 hf
        simp only [List.length_cons]
        omega
      rw [hcount, latched_nil]
      rfl

/-! ### The state in which the arrivals begin -/

/-- The latches a completion makes before its arrivals, in their order (R66, R70, R76). -/
def State.completionLatches (results : Vector (Option ChannelResult) 16) (s : State) : List AlertKey :=
  completionKeys results s.drivers ++ clampKeys s.trackerCompleted

/-- A completion before its arrivals: the results are rewritten, the trackers have done their work, the latches of both are made,
and the subscriptions are evaluated. -/
def State.completionBegun (results : Vector (Option ChannelResult) 16) (s : State) : State :=
  latched (s.completionLatches results)
    { s with
      engine := s.countCompletion.engine
      frontEnd := { s.frontEnd with results := results }
      trackers := .ofFn fun n => (s.trackerCompleted n).record
      subs := s.subs.map fun e => (e.step results).1 }

theorem filterMap_step_eq_recordsMade (results : Vector (Option ChannelResult) 16) (subs : List Subscription) :
    (subs.map fun e => e.step results).filterMap (·.2) = recordsMade results subs := by
  rw [List.filterMap_map, recordsMade]
  refine List.filterMap_congr fun e _ => ?_
  simp only [Function.comp, Subscription.step]
  cases results[e.channel] <;> rfl

/-- An evaluation: the entries held against the results, then the arrivals of the records they make (R104, R111). -/
theorem evaluateSubscriptions_eq (choice : Option Nat) (s : State) :
    s.evaluateSubscriptions choice =
      State.arriveAll choice 0 (recordsMade s.frontEnd.results s.subs)
        { s with subs := s.subs.map fun e => (e.step s.frontEnd.results).1 } := by
  rw [State.evaluateSubscriptions, filterMap_step_eq_recordsMade, List.map_map]
  rfl

/-- A completion, up to the run state it ends in: what stands before its arrivals, the arrivals, and the scan cleared. -/
theorem completed_eq (choice : Option Nat) (s : State) {results : Vector (Option ChannelResult) 16}
    (hr : results = .ofFn s.newResult) :
    s.completed choice = ((s.completionBegun results).arriveAll choice 0 (recordsMade results s.subs)).clearScan := by
  have hrewritten : s.countCompletion.rewriteResults =
      latched (completionKeys results s.drivers)
        { s.countCompletion with frontEnd := { s.frontEnd with results := results } } := by
    rw [State.rewriteResults, latchAll_eq_latched, hr]
    rfl
  rw [State.completed, hrewritten, State.trackCompletion, latchAll_eq_latched, evaluateSubscriptions_eq,
    State.completionBegun, State.completionLatches, latched_append]
  rfl

/-! ### The terms of the statement -/

theorem completionKeys_eq (results : Vector (Option ChannelResult) 16) (d : Drivers) :
    completionKeys results d =
      ((List.finRange 16).filter fun n => faulty results[n]).map .inputFault ++
        (if d.a = .tripped then [.excitationTrip .a] else []) ++
        (if d.b = .tripped then [.excitationTrip .b] else []) := by
  rw [completionKeys, List.append_assoc]
  congr 1
  by_cases ha : d.a = .tripped <;> by_cases hb : d.b = .tripped <;> simp [Drivers.get, ha, hb]

theorem clampKeys_trackerCompleted (s : State) :
    clampKeys s.trackerCompleted =
      ((List.finRange 16).filter fun n =>
        s.store.live.channels[n].enabled &&
          (s.trackers[n].complete s.store.live.channels[n] s.engine.scanCounter
            (validValues s.frontEnd.reference[n])).clamped).map .offsetAtLimit := by
  rw [clampKeys]
  congr 1
  refine List.filter_congr fun n _ => ?_
  unfold State.trackerCompleted
  dsimp only
  by_cases h : s.store.live.channels[n].enabled = true
  · rw [if_pos h, h, Bool.true_and]
  · rw [if_neg h, Bool.eq_false_of_not_eq_true h, Bool.false_and]

/-- The latches before the arrivals, in the statement's words. -/
theorem completionLatches_eq (results : Vector (Option ChannelResult) 16) (s : State) :
    s.completionLatches results =
      ((List.finRange 16).filter fun n => faulty results[n]).map .inputFault ++
        (if s.drivers.a = .tripped then [.excitationTrip .a] else []) ++
        (if s.drivers.b = .tripped then [.excitationTrip .b] else []) ++
        ((List.finRange 16).filter fun n =>
          s.store.live.channels[n].enabled &&
            (s.trackers[n].complete s.store.live.channels[n] s.engine.scanCounter
              (validValues s.frontEnd.reference[n])).clamped).map .offsetAtLimit := by
  rw [State.completionLatches, completionKeys_eq, clampKeys_trackerCompleted]

theorem trackerCompleted_record (s : State) (n : Fin 16) :
    (s.trackerCompleted n).record =
      if s.store.live.channels[n].enabled = true then
        (s.trackers[n].complete s.store.live.channels[n] s.engine.scanCounter
          (validValues s.frontEnd.reference[n])).record
      else s.trackers[n] :=
  apply_ite TrackerResult.record _ _ _

/-- The entries after an evaluation: one whose channel has "no result" is skipped (R104). -/
theorem map_step_fst (results : Vector (Option ChannelResult) 16) (subs : List Subscription) :
    (subs.map fun e => (e.step results).1) =
      subs.map fun e =>
        match results[e.channel] with
        | none => e
        | some r => (e.evaluate r).1 := by
  refine List.map_congr_left fun e _ => ?_
  unfold Subscription.step
  cases results[e.channel] <;> rfl

/-- The state in which the arrivals begin, field by field in the statement's words. -/
theorem completionBegun_eq (results : Vector (Option ChannelResult) 16) (s : State) :
    s.completionBegun results =
      latched (s.completionLatches results)
        { s with
          engine :=
            { s.engine with
              scansSinceStart := s.engine.scansSinceStart + 1
              counters := { s.engine.counters with completed := s.engine.counters.completed + 1 } }
          frontEnd := { s.frontEnd with results := results }
          trackers := .ofFn fun n : Fin 16 =>
            if s.store.live.channels[n].enabled = true then
              (s.trackers[n].complete s.store.live.channels[n] s.engine.scanCounter
                (validValues s.frontEnd.reference[n])).record
            else s.trackers[n]
          subs := s.subs.map fun e =>
            match results[e.channel] with
            | none => e
            | some r => (e.evaluate r).1 } := by
  rw [State.completionBegun, map_step_fst, funext (trackerCompleted_record s)]
  rfl

/-- The arrivals of a completion, by whether the arbiter's choice falls between two of them (R118, log entry 14). -/
theorem arriveAll_eq {choice : Option Nat} {rs : List ReportRecord} {s t : State}
    (hnone : (∀ k, choice = some k → k = 0 ∨ rs.length ≤ k) → t = s.arriveEach rs)
    (hchoice : ∀ k, choice = some k → 1 ≤ k → k < rs.length →
      t = (s.arriveEach (rs.take k)).arbiter.arriveEach (rs.drop k)) :
    s.arriveAll choice 0 rs = t := by
  by_cases h : ∃ k, choice = some k ∧ 1 ≤ k ∧ k < rs.length
  · obtain ⟨k, rfl, hk, hlt⟩ := h
    rw [hchoice k rfl hk hlt, ← arriveAll_of_choice (done := 0) hk hlt, Nat.zero_add]
  · have hout (k : Nat) (hk : choice = some k) : k = 0 ∨ rs.length ≤ k := by
      by_contra hbetween
      exact h ⟨k, hk, by omega, by omega⟩
    rw [hnone hout]
    exact arriveAll_of_no_choice (fun k hk => by have := hout k hk; omega) s

/-- The whole state a completion leaves, with a batch waiting or none and with or without a choice among its arrivals. -/
theorem completeScan_leaves {s arrived : State} {choice : Option Nat} {results : Vector (Option ChannelResult) 16}
    (hr : results = .ofFn s.newResult)
    (harrived : (s.completionBegun results).arriveAll choice 0 (recordsMade results s.subs) = arrived) :
    (s.engine.runState = .scanning →
      (s.engine.scanLimit = 0 ∨ (s.engine.scansSinceStart + 1).toNat ≠ s.engine.scanLimit) →
      s.completeScan choice = arrived.clearScan.setRunState .waiting) ∧
    ((s.engine.runState = .draining ∨
        1 ≤ s.engine.scanLimit ∧ (s.engine.scansSinceStart + 1).toNat = s.engine.scanLimit) →
      s.completeScan choice = arrived.clearScan.enterStandby) := by
  have hcompleted : s.completed choice = arrived.clearScan := by rw [completed_eq choice s hr, harrived]
  rw [← hcompleted]
  exact ⟨completeScan_of_goes_on choice, completeScan_of_ends choice⟩

/-! ### Where no batch waits -/

/-- `t` is `u` but for the drivers, the timer, the settle, the run state and the receiver. -/
structure EndOf (u t : State) : Prop where
  now : t.now = u.now
  session : t.session = u.session
  store : t.store = u.store
  scanCounter : t.engine.scanCounter = u.engine.scanCounter
  snapshot : t.engine.snapshot = u.engine.snapshot
  scanEpoch : t.engine.scanEpoch = u.engine.scanEpoch
  counters : t.engine.counters = u.engine.counters
  scansSinceStart : t.engine.scansSinceStart = u.engine.scansSinceStart
  frontEnd : t.frontEnd = u.frontEnd
  trackers : t.trackers = u.trackers
  subs : t.subs = u.subs
  report : t.report = u.report
  alerts : t.alerts = u.alerts

theorem endOf_setRunState (r : RunState) (u : State) : EndOf u (u.setRunState r) :=
  ⟨rfl, rfl, rfl, rfl, rfl, rfl, rfl, rfl, rfl, rfl, rfl, rfl, rfl⟩

theorem endOf_inStandby (u : State) : EndOf u (inStandby u) :=
  ⟨rfl, rfl, rfl, rfl, rfl, rfl, rfl, rfl, rfl, rfl, rfl, rfl, rfl⟩

/-- Where no batch waits, the end of a completion makes no boundary (R41, R44). -/
theorem completeScan_endOf {s : State} (choice : Option Nat) (hb : s.store.batch = none) :
    EndOf (s.completed choice) (s.completeScan choice) := by
  rw [completeScan_eq]
  split_ifs
  · exact endOf_setRunState _ _
  · rw [enterStandby_eq_inStandby (by rw [completed_store, hb])]
    exact endOf_inStandby _

theorem newResult_eq (s : State) (n : Fin 16) :
    s.newResult n =
      if s.store.live.channels[n].enabled = true then
        some (channelResult s.store.live.channels[n] s.engine.scanCounter s.engine.scanEpoch s.engine.snapshot[n]
          s.frontEnd.measure[n] s.frontEnd.reference[n])
      else none := rfl

/-- A completion with no choice among its arrivals: the records reach the report side in turn, and each that finds the queue full
latches REPORT_LOSS after the completion's other latches (R118, R130). -/
theorem completed_of_no_choice (s : State) {results : Vector (Option ChannelResult) 16} (hr : results = .ofFn s.newResult) :
    s.completed none =
      (latched
        (List.replicate ((recordsMade results s.subs).length - (48 - s.report.queue.length)) .reportLoss)
        { s.completionBegun results with
          report := (recordsMade results s.subs).foldl (fun q r => q.arrive r) s.report }).clearScan := by
  rw [completed_eq none s hr, arriveAll_of_no_choice (fun k hk => by cases hk), arriveEach_eq_latched]
  rfl

theorem completed_report_of_no_choice (s : State) {results : Vector (Option ChannelResult) 16}
    (hr : results = .ofFn s.newResult) :
    (s.completed none).report = (recordsMade results s.subs).foldl (fun q r => q.arrive r) s.report := by
  rw [completed_of_no_choice s hr]
  rfl

/-- What latches make of the alert set hangs on the set and the scan counter alone (R133). -/
theorem latched_alerts_congr {ks : List AlertKey} {s t : State} (ha : s.alerts = t.alerts)
    (hc : s.engine.scanCounter = t.engine.scanCounter) : (latched ks s).alerts = (latched ks t).alerts := by
  simp [latched, ha, hc]

theorem completed_alerts_of_no_choice (s : State) {results : Vector (Option ChannelResult) 16}
    (hr : results = .ofFn s.newResult) :
    (s.completed none).alerts =
      (latched
        (s.completionLatches results ++
          List.replicate ((recordsMade results s.subs).length - (48 - s.report.queue.length)) .reportLoss) s).alerts := by
  rw [completed_of_no_choice s hr, latched_append]
  refine latched_alerts_congr ?_ rfl
  exact latched_alerts_congr rfl rfl

/-! ### The statement -/

/-- Settles O38: a completion is the state in which its arrivals begin, the arrivals, and the end of the scan. -/
theorem completionEffects : Obligations.CompletionEffects := by
  refine ⟨?_, ?_⟩
  · intro s t choice _ hb ht
    have hend : EndOf (s.completed choice) t := ht ▸ completeScan_endOf choice hb
    have hr : t.frontEnd.results = .ofFn s.newResult := by rw [hend.frontEnd, completed_frontEnd]
    refine ⟨fun n => ⟨?_, ?_, ?_, ?_⟩, ?_, ?_, ?_, ?_, ?_, ?_, ?_, ?_, ?_, ?_, fun hrun hlimit => ?_, fun hlast => ?_,
      fun hchoice => ⟨?_, fun _ => ?_⟩⟩
    · rw [hr, ← newResult_eq]; simp
    · rw [hend.trackers, completed_trackers, ← trackerCompleted_record]; simp
    · simp [hend.frontEnd]
    · simp [hend.frontEnd]
    · simp [hend.frontEnd]
    · have hsubs := hend.subs.trans (completed_subs choice s)
      rw [← hr, map_step_fst] at hsubs
      exact hsubs
    · rw [hend.scanCounter, completed_engine_scanCounter]
    · rw [hend.snapshot, completed_engine_snapshot]
    · rw [hend.scanEpoch, completed_engine_scanEpoch]
    · rw [hend.counters, completed_engine_counters]
    · rw [hend.scansSinceStart, completed_engine_scansSinceStart]
    · rw [hend.store, completed_store]
    · rw [hend.session, completed_session]
    · rw [hend.now, completed_now]
    · rw [ht, completeScan_of_goes_on choice hrun hlimit]
      simp [State.setRunState]
    · rw [ht, completeScan_of_ends choice hlast, enterStandby_eq_inStandby (by rw [completed_store, hb])]
      simp [inStandby]
    · rw [hend.report, hchoice, completed_report_of_no_choice s hr]
    · rw [hend.alerts, hchoice, completed_alerts_of_no_choice s hr, completionLatches_eq]; rfl
  · rintro s begun arrived cleared choice results records - hresults rfl hbegun hnone hchoice rfl
    have hr : results = .ofFn s.newResult := Vector.ext fun i hi => by
      rw [Vector.getElem_ofFn]
      exact hresults ⟨i, hi⟩
    obtain rfl : begun = s.completionBegun results := by
      rw [hbegun, completionBegun_eq, completionLatches_eq]; rfl
    exact completeScan_leaves hr (arriveAll_eq hnone hchoice)

end Sys2Proof.Machine
end

section
/-! PROOFS. The relations between the run state and what the engine, the front end, the receiver and the drivers hold (R26, R27, R31,
R36, R44, R46, R48, R53, R58, R59): the commands that keep all they speak of, the moves from one run state to another, and the law
that every step keeps. -/

namespace Sys2Proof.Machine

/-- The law of the scan engine with that of the drivers. -/
structure RunLaw (s : State) : Prop where
  engine : EngineLaw s
  drivers : DriverLaw s

/-! ### What keeps the law whatever the run state -/

/-- All that the law speaks of is as before; in a scan the lists may grow, and a driver may go from ON. -/
structure EngineKept (s t : State) : Prop where
  runState : t.engine.runState = s.engine.runState
  mode : t.engine.mode = s.engine.mode
  timer : t.engine.timer = .stopped ↔ s.engine.timer = .stopped
  settle : t.engine.settle = s.engine.settle
  scanCounter : t.engine.scanCounter = s.engine.scanCounter
  started : t.engine.counters.started = s.engine.counters.started
  completed : t.engine.counters.completed = s.engine.counters.completed
  aborted : t.engine.counters.aborted = s.engine.counters.aborted
  slot : t.frontEnd.slot = none ↔ s.frontEnd.slot = none
  lists : ¬ InScan s → t.frontEnd.measure = s.frontEnd.measure ∧ t.frontEnd.reference = s.frontEnd.reference
  listening : t.link.rxState = .wakeListen ↔ s.link.rxState = .wakeListen
  driverA : t.drivers.a = .on → s.drivers.a = .on
  driverB : t.drivers.b = .on → s.drivers.b = .on

theorem EngineKept.inScan {s t : State} (k : EngineKept s t) : InScan t ↔ InScan s := by
  unfold InScan; rw [k.runState]

theorem EngineKept.of_engine {s t : State} (he : t.engine = s.engine) (hf : t.frontEnd = s.frontEnd)
    (hd : t.drivers = s.drivers) (hl : t.link.rxState = .wakeListen ↔ s.link.rxState = .wakeListen) : EngineKept s t := by
  constructor <;> simp [he, hf, hd, hl]

/-- The receiver stays in its state. -/
theorem EngineKept.of_eq {s t : State} (he : t.engine = s.engine) (hf : t.frontEnd = s.frontEnd)
    (hd : t.drivers = s.drivers) (hr : t.link.rxState = s.link.rxState) : EngineKept s t :=
  .of_engine he hf hd (by rw [hr])

/-- The receiver goes from one state to another, neither of which is WAKE_LISTEN. -/
theorem EngineKept.of_receiver {s t : State} (he : t.engine = s.engine) (hf : t.frontEnd = s.frontEnd)
    (hd : t.drivers = s.drivers) (hs : s.link.rxState ≠ .wakeListen) (ht : t.link.rxState ≠ .wakeListen) : EngineKept s t :=
  .of_engine he hf hd (iff_of_false ht hs)

theorem EngineKept.refl (s : State) : EngineKept s s := .of_eq rfl rfl rfl rfl

theorem EngineKept.trans {s t u : State} (h : EngineKept s t) (k : EngineKept t u) : EngineKept s u where
  runState := k.runState.trans h.runState
  mode := k.mode.trans h.mode
  timer := k.timer.trans h.timer
  settle := k.settle.trans h.settle
  scanCounter := k.scanCounter.trans h.scanCounter
  started := k.started.trans h.started
  completed := k.completed.trans h.completed
  aborted := k.aborted.trans h.aborted
  slot := k.slot.trans h.slot
  lists hn := by
    obtain ⟨hm, hr⟩ := h.lists hn
    obtain ⟨km, kr⟩ := k.lists (hn ∘ h.inScan.1)
    exact ⟨km.trans hm, kr.trans hr⟩
  listening := k.listening.trans h.listening
  driverA := h.driverA ∘ k.driverA
  driverB := h.driverB ∘ k.driverB

theorem EngineKept.runLaw {s t : State} (k : EngineKept s t) (h : RunLaw s) : RunLaw t where
  engine :=
    { counted := by rw [k.started, k.completed, k.aborted, k.runState]; exact h.engine.counted
      numbered := by rw [k.scanCounter, k.started]; exact h.engine.numbered
      timer := by rw [Ne, k.timer, k.mode, k.runState]; exact h.engine.timer
      arming := by rw [k.settle, k.runState]; exact h.engine.arming
      settling := by rw [k.settle, k.runState]; exact h.engine.settling
      slot := by rw [Ne, k.slot, k.inScan]; exact h.engine.slot
      lists := fun hn n => by
        obtain ⟨hm, hr⟩ := k.lists (hn ∘ k.inScan.2)
        rw [hm, hr]
        exact h.engine.lists (hn ∘ k.inScan.2) n
      listening := by rw [k.listening, k.runState]; exact h.engine.listening }
  drivers hon := by
    rw [k.runState]
    exact h.drivers (hon.imp k.driverA k.driverB)

/-- The law is kept by what leaves the engine, the front end, the drivers and the receiver's state alone. -/
theorem RunLaw.of_eq {s t : State} (h : RunLaw s) (he : t.engine = s.engine) (hf : t.frontEnd = s.frontEnd)
    (hd : t.drivers = s.drivers) (hr : t.link.rxState = s.link.rxState) : RunLaw t :=
  (EngineKept.of_eq he hf hd hr).runLaw h

theorem EngineKept.latch {s u : State} (h : EngineKept s u) (k : AlertKey) : EngineKept s (u.latch k) :=
  h.trans (.of_eq (latch_engine ..) (latch_frontEnd ..) (latch_drivers ..) (latch_link_rxState ..))

theorem EngineKept.accept {s u : State} (h : EngineKept s u) (k : RequestKind) (f : Frame) (contents : List Byte) :
    EngineKept s (u.accept k f contents) :=
  h.trans (.of_eq rfl rfl rfl rfl)

/-! ### Requests that leave the engine alone -/

/-- A request command keeps the law where its own part does. -/
theorem runLaw_execute {k : RequestKind} {own : Frame → State → State} {s : State} (h : RunLaw s)
    (hown : ∀ (f : Frame) {u : State}, RunLaw u → RunLaw (own f u)) : RunLaw (s.execute k own) := by
  have htaken : RunLaw s.takeHead := h.of_eq rfl rfl rfl rfl
  rcases execute_cases k own s with he | ⟨f, -, -, ⟨-, he⟩ | ⟨r, -, he⟩⟩ <;> rw [he]
  · exact h
  · exact hown f htaken
  · exact htaken.of_eq rfl rfl rfl rfl

theorem runLaw_execute_of_kept {k : RequestKind} {own : Frame → State → State} {s : State} (h : RunLaw s)
    (hown : ∀ f u, EngineKept u (own f u)) : RunLaw (s.execute k own) :=
  runLaw_execute h fun f u hu => (hown f u).runLaw hu

theorem EngineKept.renewAlert {s u : State} (h : EngineKept s u) : EngineKept s u.renewAlert := by
  unfold State.renewAlert
  split_ifs
  · exact h
  · exact h.trans (.of_eq rfl rfl rfl rfl)

theorem engineKept_hello (f : Frame) (s : State) : EngineKept s (ownHello f s) := by
  unfold ownHello
  split
  · exact .of_eq rfl rfl rfl rfl
  · refine EngineKept.renewAlert ?_
    exact .of_eq rfl rfl rfl rfl

theorem engineKept_stage (f : Frame) (s : State) : EngineKept s (ownStage f s) := by
  unfold ownStage
  split
  · exact .of_eq rfl rfl rfl rfl
  · dsimp only
    split_ifs <;> exact .of_eq rfl rfl rfl rfl

theorem engineKept_applyBatch (b : Batch) (s : State) : EngineKept s (s.applyBatch b) := by
  constructor <;> simp

theorem engineKept_seal (f : Frame) (s : State) : EngineKept s (ownSeal f s) := by
  unfold ownSeal
  split
  · exact .of_eq rfl rfl rfl rfl
  · dsimp only
    split_ifs
    · refine EngineKept.accept (EngineKept.trans ?_ (engineKept_applyBatch s.store.sealedBatch _)) _ _ _
      exact .of_eq rfl rfl rfl rfl
    · exact .of_eq rfl rfl rfl rfl

theorem engineKept_readConfig (f : Frame) (s : State) : EngineKept s (ownReadConfig f s) := by
  unfold ownReadConfig
  split <;> exact .of_eq rfl rfl rfl rfl

theorem engineKept_retrack (f : Frame) (s : State) : EngineKept s (ownRetrack f s) := by
  unfold ownRetrack
  split
  · exact .of_eq rfl rfl rfl rfl
  · refine EngineKept.accept ?_ _ _ _
    exact .of_eq rfl rfl rfl rfl

theorem engineKept_readTracker (f : Frame) (s : State) : EngineKept s (ownReadTracker f s) := by
  unfold ownReadTracker
  split <;> exact .of_eq rfl rfl rfl rfl

theorem engineKept_readResults (f : Frame) (s : State) : EngineKept s (ownReadResults f s) := by
  unfold ownReadResults
  split <;> exact .of_eq rfl rfl rfl rfl

theorem engineKept_subscribe (f : Frame) (s : State) : EngineKept s (ownSubscribe f s) := by
  unfold ownSubscribe
  split <;> exact .of_eq rfl rfl rfl rfl

theorem engineKept_unsubscribe (f : Frame) (s : State) : EngineKept s (ownUnsubscribe f s) := by
  unfold ownUnsubscribe
  split
  · split_ifs <;> exact .of_eq rfl rfl rfl rfl
  · exact .of_eq rfl rfl rfl rfl

theorem engineKept_listSubscriptions (f : Frame) (s : State) : EngineKept s (ownListSubscriptions f s) := by
  unfold ownListSubscriptions
  split
  · split_ifs <;> exact .of_eq rfl rfl rfl rfl
  · exact .of_eq rfl rfl rfl rfl

theorem engineKept_grant (f : Frame) (s : State) : EngineKept s (ownGrant f s) := by
  unfold ownGrant
  split
  · split_ifs <;> exact .of_eq rfl rfl rfl rfl
  · exact .of_eq rfl rfl rfl rfl

theorem engineKept_ackAlerts (f : Frame) (s : State) : EngineKept s (ownAckAlerts f s) := by
  unfold ownAckAlerts
  dsimp only
  split
  · exact .of_eq rfl rfl rfl rfl
  · refine EngineKept.renewAlert ?_
    exact .of_eq rfl rfl rfl rfl

theorem engineKept_readAlerts (f : Frame) (s : State) : EngineKept s (ownReadAlerts f s) := by
  unfold ownReadAlerts
  split
  · split_ifs <;> exact .of_eq rfl rfl rfl rfl
  · exact .of_eq rfl rfl rfl rfl

theorem engineKept_unknown (s : State) : EngineKept s s.executeUnknown := by
  rcases executeUnknown_cases s with h | ⟨f, -, -, h⟩ <;> rw [h]
  · exact .refl s
  · exact .of_eq rfl rfl rfl rfl

theorem engineKept_duplicate (s : State) : EngineKept s s.answerDuplicate := by
  rcases answerDuplicate_cases s with h | ⟨f, m, -, -, -, h⟩ <;> rw [h]
  · exact .refl s
  · exact .of_eq rfl rfl rfl rfl

/-! ### Events of the link, outside WAKE_LISTEN -/

theorem engineKept_setReceiver {r : RxState} (f : Option RxFrame) {s : State} (hs : s.link.rxState ≠ .wakeListen)
    (hr : r ≠ .wakeListen) : EngineKept s (s.setReceiver r f) :=
  .of_receiver rfl rfl rfl hs hr

theorem engineKept_characterEnds (s : State) : EngineKept s s.characterEnds := .of_eq rfl rfl rfl rfl

/-- A frame given up, for whatever error, leaves the receiver in HUNT. -/
theorem engineKept_timeoutFrame {s : State} (h : s.link.rxState ≠ .wakeListen) : EngineKept s s.timeoutFrame := by
  refine EngineKept.latch ?_ _
  exact .of_receiver rfl rfl rfl h nofun

theorem engineKept_lengthFault {s : State} (h : s.link.rxState ≠ .wakeListen) : EngineKept s s.lengthFault := by
  refine EngineKept.latch ?_ _
  exact .of_receiver rfl rfl rfl h nofun

theorem engineKept_arrival (f : RxFrame) (high low : Byte) {s : State} (h : s.link.rxState ≠ .wakeListen) :
    EngineKept s (s.arrival f high low) := by
  unfold State.arrival
  split_ifs
  · refine EngineKept.latch ?_ _
    exact .of_receiver rfl rfl rfl h nofun
  · exact .of_receiver rfl rfl rfl h nofun
  · refine EngineKept.latch ?_ _
    exact .of_receiver rfl rfl rfl h nofun

theorem engineKept_headerByte (f : RxFrame) (b : Byte) {s : State} (h : s.link.rxState ≠ .wakeListen) :
    EngineKept s (s.headerByte f b) := by
  unfold State.headerByte
  dsimp only
  split
  · split_ifs
    · exact engineKept_lengthFault h
    · exact engineKept_setReceiver _ h nofun
  · exact engineKept_setReceiver _ h nofun
  · exact engineKept_setReceiver _ h (by split_ifs <;> nofun)

theorem engineKept_bodyByte (f : RxFrame) (b : Byte) {s : State} (h : s.link.rxState ≠ .wakeListen) :
    EngineKept s (s.bodyByte f b) :=
  engineKept_setReceiver _ h (by split_ifs <;> nofun)

theorem engineKept_checkByte (f : RxFrame) (b : Byte) {s : State} (h : s.link.rxState ≠ .wakeListen) :
    EngineKept s (s.checkByte f b) := by
  unfold State.checkByte
  split
  · exact engineKept_setReceiver _ h nofun
  · exact engineKept_arrival f _ b h

theorem engineKept_receiveByte (b : Byte) (s : State) : EngineKept s (s.receiveByte b) := by
  by_cases hl : s.link.rxState = .wakeListen
  · have hsame : s.receiveByte b = s := by simp only [State.receiveByte, hl]
    rw [hsame]
    exact .refl s
  · unfold State.receiveByte
    dsimp only
    cases s.link.rxState with
    | inactive => exact .refl s
    | wakeListen => exact .refl s
    | wakeQuiet => exact .refl s
    | hunt =>
      dsimp only
      split_ifs
      · exact engineKept_setReceiver _ hl nofun
      · exact .refl s
    | sync =>
      dsimp only
      split_ifs
      · exact engineKept_setReceiver _ hl nofun
      · exact .refl s
      · exact engineKept_setReceiver _ hl nofun
    | header => exact engineKept_headerByte _ b hl
    | body => exact engineKept_bodyByte _ b hl
    | check => exact engineKept_checkByte _ b hl

theorem not_wakeListen_of_insideFrame {r : RxState} (h : r.insideFrame = true) : r ≠ .wakeListen := by
  rintro rfl; cases h

theorem engineKept_framingError (late : Bool) (s : State) : EngineKept s (s.framingError late) := by
  unfold State.framingError
  split_ifs with h
  · exact engineKept_timeoutFrame (not_wakeListen_of_insideFrame h.2)
  · exact .refl s

theorem engineKept_receiveCharacter (ch : Character) (s : State) : EngineKept s (s.receiveCharacter ch) := by
  unfold State.receiveCharacter
  split_ifs
  · exact .refl s
  · cases ch with
    | byte b => exact (engineKept_characterEnds s).trans (engineKept_receiveByte b _)
    | framingError late => exact (engineKept_characterEnds s).trans (engineKept_framingError late _)

theorem engineKept_characterTimesOut (s : State) : EngineKept s s.characterTimesOut := by
  unfold State.characterTimesOut
  split_ifs with h
  · exact engineKept_timeoutFrame (not_wakeListen_of_insideFrame h.1)
  · exact .refl s

/-- A LEN byte is awaited in HEADER alone. -/
theorem not_wakeListen_of_awaitsLen {l : Link} (h : l.awaitsLen = true) : l.rxState ≠ .wakeListen := by
  intro hl
  simp [Link.awaitsLen, hl] at h

/-! ### Events of the engine that stay in a run state -/

theorem engineKept_reach (t : Nat) (s : State) : EngineKept s (s.reach t) := .of_eq rfl rfl rfl rfl

/-- A timer that runs goes on running (R31). -/
theorem engineKept_reloadTimer {period due : Nat} {s : State} (h : s.engine.timer = .running period due) :
    EngineKept s (s.reloadTimer period due) where
  runState := rfl
  mode := rfl
  timer := by rw [h]; exact iff_of_false nofun nofun
  settle := rfl
  scanCounter := rfl
  started := rfl
  completed := rfl
  aborted := rfl
  slot := .rfl
  lists _ := ⟨rfl, rfl⟩
  listening := .rfl
  driverA := id
  driverB := id

theorem engineKept_setQualifier (q : Qualifier) (s : State) :
    EngineKept s { s with engine := { s.engine with qualifier := q } } :=
  ⟨rfl, rfl, .rfl, rfl, rfl, rfl, rfl, rfl, .rfl, fun _ => ⟨rfl, rfl⟩, .rfl, id, id⟩

theorem engineKept_setSync (l : Level) (s : State) : EngineKept s { s with engine := { s.engine with sync := l } } :=
  ⟨rfl, rfl, .rfl, rfl, rfl, rfl, rfl, rfl, .rfl, fun _ => ⟨rfl, rfl⟩, .rfl, id, id⟩

theorem engineKept_overrun (s : State) : EngineKept s s.overrun := by
  refine EngineKept.latch ?_ _
  exact ⟨rfl, rfl, .rfl, rfl, rfl, rfl, rfl, rfl, .rfl, fun _ => ⟨rfl, rfl⟩, .rfl, id, id⟩

theorem engineKept_missTrigger (s : State) : EngineKept s s.missTrigger := by
  refine EngineKept.latch ?_ _
  exact ⟨rfl, rfl, .rfl, rfl, rfl, rfl, rfl, rfl, .rfl, fun _ => ⟨rfl, rfl⟩, .rfl, id, id⟩

/-- A driver that trips is no longer ON (R60). -/
theorem engineKept_overcurrent (g : Group) (s : State) : EngineKept s (s.overcurrent g) := by
  unfold State.overcurrent
  split_ifs
  · refine EngineKept.latch ?_ _
    refine ⟨rfl, rfl, .rfl, rfl, rfl, rfl, rfl, rfl, .rfl, fun _ => ⟨rfl, rfl⟩, .rfl, ?_, ?_⟩ <;> cases g
    exacts [nofun, id, id, nofun]
  · exact .refl s

/-- In a scan the slot in flight and the lists go on (R54, R56). -/
theorem engineKept_slotGoesOn {s : State} (hs : InScan s) {sl : SlotInFlight} (hsl : s.frontEnd.slot = some sl) (t : Nat)
    {f : FrontEnd} (hf : f.slot ≠ none) : EngineKept s { s.reach t with frontEnd := f } :=
  ⟨rfl, rfl, .rfl, rfl, rfl, rfl, rfl, rfl, iff_of_false hf (by rw [hsl]; nofun), fun hn => absurd hs hn, .rfl, id, id⟩

/-! ### Between two scans -/

/-- What the law says of the counts and the front end where no scan is in progress. -/
structure BetweenScans (s : State) : Prop where
  counted : s.engine.counters.started = s.engine.counters.completed + s.engine.counters.aborted
  numbered : s.engine.scanCounter = s.engine.counters.started
  slot : s.frontEnd.slot = none
  lists : ∀ n : Fin 16, s.frontEnd.measure[n] = [] ∧ s.frontEnd.reference[n] = []

theorem BetweenScans.setRunState {s : State} (h : BetweenScans s) (r : RunState) : BetweenScans (s.setRunState r) :=
  ⟨h.counted, h.numbered, h.slot, h.lists⟩

theorem RunLaw.betweenScans {s : State} (h : RunLaw s) (hn : ¬ InScan s) : BetweenScans s where
  counted := by simpa [if_neg (show ¬ (_ ∨ _) from hn)] using h.engine.counted
  numbered := h.engine.numbered
  slot := not_not.1 (mt h.engine.slot.1 hn)
  lists := h.engine.lists hn

/-- The count of the scan in progress (R26). -/
theorem RunLaw.counted_inScan {s : State} (h : RunLaw s) (hs : InScan s) :
    s.engine.counters.started = s.engine.counters.completed + s.engine.counters.aborted + 1 := by
  have := h.engine.counted
  rwa [if_pos (show _ ∨ _ from hs)] at this

/-- An abort counts the scan and clears it (R43, R53). -/
theorem betweenScans_abortScan {s : State} (h : RunLaw s) (hs : InScan s) : BetweenScans s.abortScan where
  counted := (h.counted_inScan hs).trans (BitVec.add_assoc ..)
  numbered := h.engine.numbered
  slot := rfl
  lists n := by simp [State.abortScan, State.clearScan]

/-- A completion counts the scan and clears it (R40, R53). -/
theorem betweenScans_completed {s u : State} (h : RunLaw s) (hs : InScan s) (he : u.engine = s.engine)
    (choice : Option Nat) : BetweenScans (u.completed choice) where
  counted := by
    rw [completed_engine_counters, he, h.counted_inScan hs]
    exact add_right_comm _ _ _
  numbered := by rw [completed_engine_scanCounter, completed_engine_counters, he]; exact h.engine.numbered
  slot := by rw [completed_frontEnd]
  lists n := by rw [completed_frontEnd]; simp

/-- The law outside a scan, from what it says of the counts and of the run state. -/
theorem runLaw_of_between {s : State} (h : BetweenScans s) (hn : ¬ InScan s)
    (timer : s.engine.timer ≠ .stopped ↔
      s.engine.mode = .free ∧ s.engine.runState ≠ .standby ∧ s.engine.runState ≠ .arming)
    (arming : (∃ t, s.engine.settle = some (.arming t)) ↔ s.engine.runState = .arming)
    (settling : (∃ t, s.engine.settle = some (.wake t)) ↔ s.engine.runState = .settling)
    (listening : s.link.rxState = .wakeListen ↔ s.engine.runState = .doze) (drivers : DriverLaw s) : RunLaw s where
  engine :=
    { counted := by rw [if_neg (show ¬ (_ ∨ _) from hn), h.counted, add_zero]
      numbered := h.numbered
      timer, arming, settling, listening
      slot := iff_of_false (not_not.2 h.slot) hn
      lists := fun _ => h.lists }
  drivers := drivers

theorem leaveWakeListen_ne (r : RxState) : r.leaveWakeListen ≠ .wakeListen := by
  cases r <;> nofun

theorem rest_ne_on (d : DriverState) : d.rest ≠ .on := by cases d <;> nofun

/-! ### From one run state to another -/

/-- The receiver is in WAKE_LISTEN in DOZE alone. -/
theorem RunLaw.not_listening {s : State} (h : RunLaw s) (hd : s.engine.runState ≠ .doze) : s.link.rxState ≠ .wakeListen :=
  mt h.engine.listening.1 hd

/-- No settle is in progress but in ARMING and SETTLING. -/
theorem RunLaw.settle_eq_none {s : State} (h : RunLaw s) (ha : s.engine.runState ≠ .arming)
    (hs : s.engine.runState ≠ .settling) : s.engine.settle = none := by
  cases hset : s.engine.settle with
  | none => rfl
  | some settle =>
    cases settle with
    | arming t => exact absurd (h.engine.arming.1 ⟨t, hset⟩) ha
    | wake t => exact absurd (h.engine.settling.1 ⟨t, hset⟩) hs

/-- Entry into STANDBY (R44). -/
theorem runLaw_enterStandby {s : State} (h : BetweenScans s) : RunLaw s.enterStandby := by
  refine runLaw_of_between ⟨?_, ?_, ?_, ?_⟩ ?_ ?_ ?_ ?_ ?_ ?_
  · simpa using h.counted
  · simpa using h.numbered
  · simpa using h.slot
  · simpa using h.lists
  · simp [InScan]
  · simp
  · simp
  · simp
  · simpa using leaveWakeListen_ne _
  · simp [DriverLaw, rest_ne_on]

/-- A scan start (R31, R36). -/
theorem runLaw_scanStart {s : State} (h : RunLaw s) (hn : ¬ InScan s) (hd : s.engine.runState ≠ .doze) :
    RunLaw s.scanStart where
  engine :=
    { counted := by simp [(h.betweenScans hn).counted]
      numbered := by simp [h.engine.numbered]
      timer := by
        obtain ⟨hfree, htriggered⟩ := scanStart_timer s
        cases hm : s.engine.mode with
        | free => simp [hm, hfree hm]
        | triggered =>
          have hstopped : s.engine.timer = .stopped := not_not.1 fun ht => by
            have hmode := (h.engine.timer.1 ht).1
            rw [hm] at hmode
            cases hmode
          simp [hm, htriggered hm, hstopped]
      arming := by simp
      settling := by simp
      slot := iff_of_true (by rw [scanStart_frontEnd_slot]; nofun) (.inl rfl)
      lists := fun hout => absurd (.inl rfl) hout
      listening := iff_of_false (by simpa using h.not_listening hd) (by simp) }
  drivers _ := by simp

/-- The arming settle's end in TRIGGERED mode (R30). -/
theorem runLaw_armed {s : State} (h : RunLaw s) (harming : s.engine.runState = .arming) (hm : s.engine.mode = .triggered) :
    RunLaw { s with engine := { s.engine with runState := .waiting, settle := none } } := by
  have hb := h.betweenScans (by simp [InScan, harming])
  have ht : s.engine.timer = .stopped := by simpa [hm] using h.engine.timer
  refine runLaw_of_between ⟨hb.counted, hb.numbered, hb.slot, hb.lists⟩ ?_ ?_ ?_ ?_ ?_ ?_
  · simp [InScan]
  · simp [ht, hm]
  · simp
  · simp
  · simpa using h.not_listening (by simp [harming])
  · simp [DriverLaw]

/-- Entry into SETTLING from DOZE (R46, R47). -/
theorem runLaw_enterSettling {s : State} (h : RunLaw s) (hdoze : s.engine.runState = .doze) : RunLaw s.enterSettling := by
  have hb := h.betweenScans (by simp [InScan, hdoze])
  have ht := h.engine.timer
  refine runLaw_of_between ⟨hb.counted, hb.numbered, hb.slot, hb.lists⟩ ?_ ?_ ?_ ?_ ?_ ?_
  · simp [InScan, State.enterSettling]
  · simpa [hdoze, State.enterSettling] using ht
  · simp [State.enterSettling]
  · simp [State.enterSettling]
  · simpa [State.enterSettling, State.leaveWakeListen] using leaveWakeListen_ne _
  · simp [DriverLaw, State.enterSettling]

/-- The wake from DOZE by a start bit (R46, R153). -/
theorem runLaw_wakeByStartBit {s : State} (h : RunLaw s) (hdoze : s.engine.runState = .doze) : RunLaw s.wakeByStartBit := by
  have hb := h.betweenScans (by simp [InScan, hdoze])
  have ht := h.engine.timer
  have hset := h.settle_eq_none (by simp [hdoze]) (by simp [hdoze])
  refine runLaw_of_between ⟨hb.counted, hb.numbered, hb.slot, hb.lists⟩ ?_ ?_ ?_ ?_ ?_ ?_
  · simp [InScan, State.wakeByStartBit, State.setRunState]
  · simpa [hdoze, State.wakeByStartBit, State.setRunState] using ht
  · simp [hset, State.wakeByStartBit, State.setRunState]
  · simp [hset, State.wakeByStartBit, State.setRunState]
  · simp [State.wakeByStartBit, State.setRunState]
  · simp [DriverLaw, State.wakeByStartBit, State.setRunState]

/-- Entry into DOZE from WAITING (R45). -/
theorem runLaw_enterDoze {s : State} (h : RunLaw s) (hwait : s.engine.runState = .waiting) : RunLaw s.enterDoze := by
  have hb := h.betweenScans (by simp [InScan, hwait])
  have ht := h.engine.timer
  have hset := h.settle_eq_none (by simp [hwait]) (by simp [hwait])
  refine runLaw_of_between ⟨hb.counted, hb.numbered, hb.slot, hb.lists⟩ ?_ ?_ ?_ ?_ ?_ ?_
  · simp [InScan, State.enterDoze, State.setRunState]
  · simpa [hwait, State.enterDoze, State.setRunState] using ht
  · simp [hset, State.enterDoze, State.setRunState]
  · simp [hset, State.enterDoze, State.setRunState]
  · simp [State.enterDoze, State.setRunState]
  · simp [DriverLaw, State.enterDoze, State.setRunState, State.driversRest, rest_ne_on]

/-- Entry into ARMING from STANDBY (R29). -/
theorem runLaw_beginRun {s : State} (h : RunLaw s) (hstandby : s.engine.runState = .standby) (mode : Mode) (limit : Nat) :
    RunLaw (s.beginRun mode limit) := by
  have hb := h.betweenScans (by simp [InScan, hstandby])
  have ht : s.engine.timer = .stopped := by simpa [hstandby] using h.engine.timer
  refine runLaw_of_between ⟨hb.counted, hb.numbered, hb.slot, hb.lists⟩ ?_ ?_ ?_ ?_ ?_ ?_
  · simp [InScan, State.beginRun]
  · simp [ht, State.beginRun]
  · simp [State.beginRun]
  · simp [State.beginRun]
  · simpa [State.beginRun] using h.not_listening (by simp [hstandby])
  · simp [DriverLaw, State.beginRun]

/-- The scan goes on in DRAINING (R42). -/
theorem runLaw_drain {s : State} (h : RunLaw s) (hscan : s.engine.runState = .scanning) :
    RunLaw (s.setRunState .draining) where
  engine :=
    { counted := h.counted_inScan (.inl hscan)
      numbered := h.engine.numbered
      timer := by simpa [hscan, State.setRunState] using h.engine.timer
      arming := by simpa [hscan, State.setRunState] using h.engine.arming
      settling := by simpa [hscan, State.setRunState] using h.engine.settling
      slot := h.engine.slot.trans (iff_of_true (.inl hscan) (.inr rfl))
      lists := fun hout => absurd (.inr rfl) hout
      listening := by simpa [hscan, State.setRunState] using h.engine.listening }
  drivers _ := by simp [State.setRunState]

/-- A completion, whose front end the completion itself clears (R41). -/
theorem runLaw_completeScan {s u : State} (h : RunLaw s) (hs : InScan s) (choice : Option Nat) (he : u.engine = s.engine)
    (hr : u.link.rxState = s.link.rxState) : RunLaw (u.completeScan choice) := by
  have hb := betweenScans_completed h hs he choice
  rw [completeScan_eq]
  split_ifs with hgo
  · have hscan : s.engine.runState = .scanning := he ▸ hgo.1
    have hset := h.settle_eq_none (by simp [hscan]) (by simp [hscan])
    have ht := h.engine.timer
    refine runLaw_of_between (hb.setRunState .waiting) ?_ ?_ ?_ ?_ ?_ ?_
    · simp [InScan, State.setRunState]
    · simpa [hscan, he, State.setRunState] using ht
    · simp [hset, he, State.setRunState]
    · simp [hset, he, State.setRunState]
    · simpa [hr, State.setRunState] using h.not_listening (by simp [hscan])
    · simp [DriverLaw, State.setRunState]
  · exact runLaw_enterStandby hb

/-- Every block at its reset values (R184). -/
theorem runLaw_atReset (pending : List Instr) (phase : Phase) (cause : ResetCause) (rate : LinkRate) :
    RunLaw (atReset pending phase cause rate) := by
  have hb : BetweenScans (atReset pending phase cause rate) :=
    ⟨rfl, rfl, rfl, fun n => by simp [atReset, State.reset, FrontEnd.reset]⟩
  refine runLaw_of_between hb ?_ ?_ ?_ ?_ ?_ ?_ <;>
    simp [atReset, State.reset, ScanEngine.reset, Link.reset, InScan, DriverLaw]

/-! ### Commands that go from one run state to another -/

theorem runLaw_whileRunning {f : State → State} {s : State} (h : RunLaw s) (hf : RunLaw (f s)) : RunLaw (s.whileRunning f) := by
  unfold State.whileRunning
  split_ifs
  exacts [hf, h]

theorem runLaw_start (f : Frame) {s : State} (h : RunLaw s) : RunLaw (ownStart f s) := by
  unfold ownStart
  split
  · exact h.of_eq rfl rfl rfl rfl
  · next mode limit hops =>
    have hstandby : s.engine.runState = .standby := by
      unfold startOperands at hops
      split at hops
      · split at hops
        · cases hops
        · split_ifs at hops with haway
          exact not_not.1 haway
      · cases hops
    exact (runLaw_beginRun h hstandby mode limit).of_eq rfl rfl rfl rfl

theorem runLaw_stopRun {s : State} (h : RunLaw s) : RunLaw s.stopRun := by
  unfold State.stopRun
  cases hrun : s.engine.runState with
  | scanning => exact runLaw_drain h hrun
  | standby => exact h
  | draining => exact h
  | arming | waiting | doze | settling => exact runLaw_enterStandby (h.betweenScans (by simp [InScan, hrun]))

theorem runLaw_abortRun {s : State} (h : RunLaw s) : RunLaw s.abortRun := by
  unfold State.abortRun
  cases hrun : s.engine.runState with
  | scanning => exact runLaw_enterStandby (betweenScans_abortScan h (.inl hrun))
  | draining => exact runLaw_enterStandby (betweenScans_abortScan h (.inr hrun))
  | standby => exact h
  | arming | waiting | doze | settling => exact runLaw_enterStandby (h.betweenScans (by simp [InScan, hrun]))

theorem runLaw_stop (f : Frame) {s : State} (h : RunLaw s) : RunLaw (ownStop f s) :=
  (runLaw_stopRun h).of_eq rfl rfl rfl rfl

theorem runLaw_abort (f : Frame) {s : State} (h : RunLaw s) : RunLaw (ownAbort f s) :=
  (runLaw_abortRun h).of_eq rfl rfl rfl rfl

theorem runLaw_takeStartBit {s : State} (h : RunLaw s) : RunLaw s.takeStartBit := by
  unfold State.takeStartBit
  split_ifs
  · exact h
  · cases hrx : s.link.rxState with
    | wakeListen => exact runLaw_wakeByStartBit h (h.engine.listening.1 hrx)
    | wakeQuiet | inactive => exact h
    | hunt | sync | header | body | check => exact h.of_eq rfl rfl rfl rfl

/-- A break outside WAKE_LISTEN leaves the receiver in WAKE_QUIET or in HUNT (R152). -/
theorem engineKept_breakLink {s : State} (h : s.link.rxState ≠ .wakeListen) : EngineKept s s.breakLink := by
  refine .of_receiver rfl rfl rfl h ?_
  simp only [State.breakLink]
  split_ifs <;> nofun

theorem runLaw_receiveBreak (rate : Level) {s : State} (h : RunLaw s) : RunLaw (s.receiveBreak rate) := by
  unfold State.receiveBreak
  split_ifs with hlow hlisten
  · exact h
  all_goals dsimp only; split_ifs
  · exact runLaw_atReset ..
  · have hwoken := runLaw_wakeByStartBit h (h.engine.listening.1 hlisten)
    exact (engineKept_breakLink (hwoken.not_listening nofun)).runLaw hwoken
  · exact runLaw_atReset ..
  · exact (engineKept_breakLink hlisten).runLaw h

theorem runLaw_endTransmission (rate : Level) {s : State} (h : RunLaw s) : RunLaw (s.endTransmission rate) := by
  unfold State.endTransmission
  split
  · exact h
  · dsimp only
    split_ifs
    · exact runLaw_atReset ..
    · exact h.of_eq rfl rfl rfl rfl

theorem runLaw_powerOn (resetN rate : Level) (s : State) : RunLaw (s.powerOn resetN rate) := by
  cases resetN <;> exact runLaw_atReset ..

theorem runLaw_resetNLow {s : State} (h : RunLaw s) : RunLaw s.resetNLow := by
  unfold State.resetNLow
  split
  · exact h
  all_goals exact runLaw_atReset ..

theorem runLaw_resetNHigh (rate : Level) {s : State} (h : RunLaw s) : RunLaw (s.resetNHigh rate) := by
  unfold State.resetNHigh
  split
  · exact h.of_eq rfl rfl rfl rfl
  all_goals exact h

/-- Start-up ends with the receiver in HUNT, which through start-up has been inactive (R162). -/
theorem runLaw_endStartUp {s : State} (hstart : StartUpLaw s) (h : RunLaw s) : RunLaw s.endStartUp := by
  unfold State.endStartUp
  split
  · next hphase =>
    have hrx : s.link.rxState = .inactive := congrArg (·.link.rxState) (hstart.held (by rw [hphase]; nofun))
    have hkept : EngineKept s { s with phase := .running, link := { s.link with rxState := .hunt } } :=
      .of_receiver rfl rfl rfl (by rw [hrx]; nofun) nofun
    exact (hkept.runLaw h).of_eq rfl rfl rfl rfl
  all_goals exact h

theorem runLaw_armingSettled {s : State} (h : RunLaw s) : RunLaw s.armingSettled := by
  unfold State.armingSettled
  split
  · next expiry hrun _ =>
    have hu := (engineKept_reach expiry s).runLaw h
    dsimp only
    split
    · exact runLaw_scanStart hu (by simp [InScan, hrun]) (by simp [hrun])
    · next hm => exact runLaw_armed hu hrun hm
  · exact h

theorem runLaw_wakeSettled {s : State} (h : RunLaw s) : RunLaw s.wakeSettled := by
  unfold State.wakeSettled
  split
  · next expiry hrun _ =>
    exact runLaw_scanStart ((engineKept_reach expiry s).runLaw h) (by simp [InScan, hrun]) (by simp [hrun])
  · exact h

theorem runLaw_onExpiry {s : State} (h : RunLaw s) : RunLaw s.onExpiry := by
  unfold State.onExpiry
  cases hrun : s.engine.runState with
  | waiting => exact runLaw_scanStart h (by simp [InScan, hrun]) (by simp [hrun])
  | doze => exact runLaw_enterSettling h hrun
  | settling | scanning => exact (engineKept_overrun s).runLaw h
  | draining | standby | arming => exact h

theorem runLaw_timerExpires {s : State} (h : RunLaw s) : RunLaw s.timerExpires := by
  unfold State.timerExpires
  split
  · exact h
  · next ht => exact runLaw_onExpiry ((engineKept_reloadTimer ht).runLaw h)

theorem runLaw_onTrigger {s : State} (h : RunLaw s) : RunLaw s.onTrigger := by
  unfold State.onTrigger
  split
  · exact h
  · cases hrun : s.engine.runState with
    | waiting => exact runLaw_scanStart h (by simp [InScan, hrun]) (by simp [hrun])
    | doze => exact runLaw_enterSettling h hrun
    | arming | settling | scanning | draining => exact (engineKept_missTrigger s).runLaw h
    | standby => exact h

theorem runLaw_takeTrigger {s : State} (h : RunLaw s) : RunLaw s.takeTrigger := by
  unfold State.takeTrigger
  split
  · exact h
  · exact runLaw_onTrigger ((engineKept_setQualifier .idle s).runLaw h)

theorem scanInProgress_iff (s : State) : s.engine.runState.scanInProgress = true ↔ InScan s := by
  simp [RunState.scanInProgress, InScan]

theorem runLaw_conversionEnds (code : BitVec 24) (senseGood : Bool) (choice : Option Nat) {s : State} (h : RunLaw s) :
    RunLaw (s.conversionEnds code senseGood choice) := by
  unfold State.conversionEnds
  split
  · exact h
  · next sl hsl =>
    split_ifs with hscan
    · rw [scanInProgress_iff] at hscan
      unfold State.endConversion State.endSlot
      dsimp only
      split
      · refine EngineKept.runLaw ?_ h
        exact engineKept_slotGoesOn hscan hsl _ nofun
      · split
        · refine EngineKept.runLaw ?_ h
          exact engineKept_slotGoesOn hscan hsl _ nofun
        · exact runLaw_completeScan h hscan choice rfl rfl
    · exact h

/-! ### Every command -/

/-- Every command keeps the law, where that of reset and start-up holds. -/
theorem exec_keeps_runLaw {c : Instr} {s t : State} (hstart : StartUpLaw s) (h : RunLaw s) (hx : exec c s = .next t) :
    RunLaw t := by
  cases c <;> obtain rfl := Host.Outcome.next.inj hx
  case hello => exact runLaw_execute_of_kept h engineKept_hello
  case getState => exact runLaw_execute_of_kept h fun f u => .of_eq rfl rfl rfl rfl
  case reset => exact runLaw_execute_of_kept h fun f u => .of_eq rfl rfl rfl rfl
  case stage => exact runLaw_execute_of_kept h engineKept_stage
  case discard => exact runLaw_execute_of_kept h fun f u => .of_eq rfl rfl rfl rfl
  case readConfig => exact runLaw_execute_of_kept h engineKept_readConfig
  case start => exact runLaw_execute h fun f _ => runLaw_start f
  case stop => exact runLaw_execute h fun f _ => runLaw_stop f
  case abort => exact runLaw_execute h fun f _ => runLaw_abort f
  case retrack => exact runLaw_execute_of_kept h engineKept_retrack
  case readTracker => exact runLaw_execute_of_kept h engineKept_readTracker
  case readResults => exact runLaw_execute_of_kept h engineKept_readResults
  case subscribe => exact runLaw_execute_of_kept h engineKept_subscribe
  case unsubscribe => exact runLaw_execute_of_kept h engineKept_unsubscribe
  case listSubscriptions => exact runLaw_execute_of_kept h engineKept_listSubscriptions
  case grant => exact runLaw_execute_of_kept h engineKept_grant
  case ackAlerts => exact runLaw_execute_of_kept h engineKept_ackAlerts
  case readAlerts => exact runLaw_execute_of_kept h engineKept_readAlerts
  case readCounters => exact runLaw_execute_of_kept h fun f u => .of_eq rfl rfl rfl rfl
  case unknownKind => exact (engineKept_unknown s).runLaw h
  case duplicate => exact (engineKept_duplicate s).runLaw h
  case frameArrival b =>
    refine runLaw_whileRunning h ?_
    split_ifs
    · exact ((engineKept_characterEnds s).trans (engineKept_receiveByte b _)).runLaw h
    · exact h
  case lengthError b =>
    refine runLaw_whileRunning h ?_
    split_ifs with hlen
    · exact ((engineKept_characterEnds s).trans
        (engineKept_lengthFault (not_wakeListen_of_awaitsLen hlen.1))).runLaw h
    · exact h
  case characterTimeout => exact runLaw_whileRunning h ((engineKept_characterTimesOut s).runLaw h)
  case breakDetected rate => exact runLaw_whileRunning h (runLaw_receiveBreak rate h)
  case breakEnd => exact runLaw_whileRunning h (h.of_eq rfl rfl rfl rfl)
  case wake => exact runLaw_whileRunning h (runLaw_takeStartBit h)
  case wakeQuietEnd =>
    refine runLaw_whileRunning h ?_
    split_ifs with hquiet
    · have hne : s.link.rxState ≠ .wakeListen := by rw [hquiet.1]; nofun
      exact (engineKept_setReceiver none hne (r := .hunt) nofun).runLaw h
    · exact h
  case arbiterChoice =>
    exact h.of_eq (arbiter_engine s) (arbiter_frontEnd s) (arbiter_drivers s) (arbiter_link_rxState s)
  case transmitEnd rate => exact runLaw_whileRunning h (runLaw_endTransmission rate h)
  case powerOn resetN rate => exact runLaw_powerOn resetN rate s
  case resetNLow => exact runLaw_resetNLow h
  case resetNHigh rate => exact runLaw_resetNHigh rate h
  case startUpEnd => exact runLaw_endStartUp hstart h
  case armingSettleEnd => exact runLaw_whileRunning h (runLaw_armingSettled h)
  case timerExpiry => exact runLaw_whileRunning h (runLaw_timerExpires h)
  case trigEdge direction => exact runLaw_whileRunning h ((engineKept_setQualifier _ s).runLaw h)
  case trigger => exact runLaw_whileRunning h (runLaw_takeTrigger h)
  case wakeSettleEnd => exact runLaw_whileRunning h (runLaw_wakeSettled h)
  case syncPulseEnd => exact runLaw_whileRunning h ((engineKept_setSync .low s).runLaw h)
  case conversionEnd code senseGood choice =>
    exact runLaw_whileRunning h (runLaw_conversionEnds code senseGood choice h)
  case dozeEntry =>
    refine runLaw_whileRunning h ?_
    split_ifs with hdoze
    · exact runLaw_enterDoze h hdoze.1
    · exact h
  case overcurrent g => exact runLaw_whileRunning h ((engineKept_overcurrent g s).runLaw h)
  case characterReceived ch => exact runLaw_whileRunning h ((engineKept_receiveCharacter ch s).runLaw h)
  -- SEAL is left, whose constructor's name is a word of Lean and cannot stand after `case`.
  · exact runLaw_execute_of_kept h engineKept_seal

/-- The law of reset and start-up does not speak of the commands that wait. -/
theorem startUpLaw_popFront {s : State} (h : StartUpLaw s) : StartUpLaw s.popFront :=
  ⟨fun hp => congrArg State.popFront (h.held hp), h.active⟩

/-- Settles O54: every command keeps the law of the engine with that of the drivers, and a step runs a command or idles. -/
theorem engineLawKept : Obligations.EngineLawKept := by
  intro s t hstart hengine hdrivers hstep
  unfold step at hstep
  split at hstep
  · cases hstep; exact ⟨hengine, hdrivers⟩
  · have hlaw : RunLaw s := ⟨hengine, hdrivers⟩
    have hpopped : RunLaw s.popFront := hlaw.of_eq rfl rfl rfl rfl
    obtain ⟨he, hd⟩ := exec_keeps_runLaw (startUpLaw_popFront hstart) hpopped hstep
    exact ⟨he, hd⟩

end Sys2Proof.Machine
end

section
/-! PROOFS. The commands of the scan engine against the terms of the claims: the reset values (R2, R4, R5, R27, R53, R68, R116, R147),
START (R28, R29, R188), the settles, the scan timer and TRIG (R30, R31, R33 to R35, R47), a scan start (R36), the conversions
(R51 to R56) and DOZE (R45, R46, R153). -/

namespace Sys2Proof.Machine

/-! ### Shared operations in the terms of the claims -/

theorem whileRunning_of_running {s : State} (h : s.phase = .running) (f : State → State) : s.whileRunning f = f s :=
  if_pos h

theorem wake_eq_wokenDriver (level : ExciteLevel) (d : DriverState) : d.wake level = wokenDriver level d := by
  cases d <;> cases level <;> rfl

theorem settleTime_eq (d : DeviceConfig) : d.settleTime = 1000 * d.armSettleMs := Nat.mul_comm ..

theorem enterSettling_eq_inSettling (s : State) : s.enterSettling = inSettling s := by
  rw [inSettling, ← wake_eq_wokenDriver, ← wake_eq_wokenDriver, ← settleTime_eq]
  rfl

theorem overrun_eq_latched (s : State) :
    s.overrun =
      latched [.scanOverrun]
        { s with
          engine :=
            { s.engine with counters := { s.engine.counters with overruns := s.engine.counters.overruns + 1 } } } :=
  latch_eq_latched ..

theorem missTrigger_eq_latched (s : State) :
    s.missTrigger =
      latched [.triggerMissed]
        { s with
          engine :=
            { s.engine with
              counters := { s.engine.counters with triggersMissed := s.engine.counters.triggersMissed + 1 } } } :=
  latch_eq_latched ..

/-! ### Reset values -/

/-- Settles O3: the blocks' reset values as their tables state them, and the catalogue's defaults field by field. -/
theorem resetValues : Obligations.ResetValues := by
  refine ⟨fun f => ?_, fun n f => ?_, fun i f => ?_, rfl, rfl, rfl, rfl, fun n => ?_, rfl, rfl, rfl, rfl, rfl, rfl⟩
  · cases f <;> rfl
  · have hn : State.reset.store.live.channels[n] = ChannelConfig.defaults n := by
      simp [State.reset, ConfigStore.reset, Configuration.defaults]
    rw [hn]
    cases f
    case exciteGroup =>
      have hlow : n.val < 8 ↔ n.val ≤ 7 := Nat.lt_succ_iff
      simp only [ChannelConfig.get, ChannelConfig.defaults, hlow]
      split_ifs <;> rfl
    all_goals rfl
  · have hi : State.reset.store.live.slots[i] = SlotConfig.defaults i := by
      simp [State.reset, ConfigStore.reset, Configuration.defaults]
    rw [hi]
    cases f <;> rfl
  · simp [State.reset, FrontEnd.reset, Tracker.reset]

/-! ### START -/

theorem exec_start_of_admits {f : Frame} {s : State} (h : Admits .start f s) :
    exec .start s = .next (ownStart f s.takeHead) :=
  congrArg Host.Outcome.next (execute_of_admits h)

/-- A START is refused with what its checks find. -/
theorem exec_start_refused {f : Frame} {s : State} (hadm : Admits .start f s) {r : Rejection}
    (h : startOperands s.engine.runState f.body = .error r) :
    exec .start s = .next (refusedWith f r.status.code (byteOf r.check) (byteOf r.index) s) := by
  rw [exec_start_of_admits hadm, ← takeHead_refuse hadm.named]
  simp only [ownStart, State.takeHead_engine, h]

theorem startTriggers_iff (cfg : ChannelConfig) :
    startTriggers cfg = true ↔ cfg.enabled = true ∧ cfg.zeroMode = .track ∧ cfg.startTrigger = true := by
  simp [startTriggers, and_assoc]

/-- The effect of a START taken, in the terms of the claim (R29, R59, R87). -/
theorem beginRun_eq (mode : Mode) (limit : Nat) (s : State) :
    s.beginRun mode limit =
      { s with
        drivers :=
          ⟨if s.store.live.device.exciteALevel = .off then .off else .on,
            if s.store.live.device.exciteBLevel = .off then .off else .on⟩
        trackers := .ofFn fun n : Fin 16 =>
          if s.store.live.channels[n].enabled = true ∧ s.store.live.channels[n].zeroMode = .track ∧
              s.store.live.channels[n].startTrigger = true then
            hardTriggered .start s.engine.scanCounter s.trackers[n]
          else s.trackers[n]
        engine :=
          { s.engine with
            mode := mode
            scanLimit := limit
            scansSinceStart := 0
            runState := .arming
            settle := some (.arming (s.now + 1000 * s.store.live.device.armSettleMs)) } } := by
  simp only [← startTriggers_iff, ← settleTime_eq]
  rfl

theorem Mode.ofCode_eq_none {m : Byte} (h : 2 ≤ m.toNat) : Mode.ofCode m = none := by
  have hne (k : Byte) (hk : k.toNat < 2) : m ≠ k := fun he => by rw [he] at h; omega
  rw [Mode.ofCode, if_neg (hne 0 (by decide)), if_neg (hne 1 (by decide))]

/-- Settles O14: the operands of an admitted START and the run it begins, and the two faults its checks find. -/
theorem startBeginsRun : Obligations.StartBeginsRun := by
  refine ⟨fun s f m l1 l0 mode hadm hbody hmode hstandby => ?_,
    fun s f m l1 l0 hadm hbody => ⟨fun hm => ?_, fun hm haway => ?_⟩⟩
  · have hcode : Mode.ofCode m = some mode := by
      rcases hmode with ⟨rfl, rfl⟩ | ⟨rfl, rfl⟩ <;> rfl
    have hops : startOperands s.engine.runState f.body = .ok (mode, 256 * l1.toNat + l0.toNat) := by
      simp [startOperands, hbody, hcode, hstandby, natOfBytes2_eq]
    rw [exec_start_of_admits hadm]
    simp only [ownStart, State.takeHead_engine, hops, beginRun_eq]
    rfl
  · exact exec_start_refused hadm (r := ⟨.outOfRange, 0, 0⟩)
      (by simp only [startOperands, hbody, Mode.ofCode_eq_none hm])
  · obtain ⟨mode, hcode⟩ : ∃ mode, Mode.ofCode m = some mode := by
      have h01 : m = 0 ∨ m = 1 := by bv_omega
      rcases h01 with rfl | rfl
      exacts [⟨.free, rfl⟩, ⟨.triggered, rfl⟩]
    exact exec_start_refused hadm (r := ⟨.wrongState, 0, noIndex⟩) (by simp [startOperands, hbody, hcode, haway])

/-! ### Settles -/

/-- Settles O33: an arming settle ends by mode, a wake settle in a scan start. -/
theorem settlesEnd : Obligations.SettlesEnd := by
  intro s expiry hrunning
  refine ⟨fun hrun hsettle => ⟨fun hmode => ?_, fun hmode => ?_⟩, fun hrun hsettle => ?_⟩
  · rw [exec, execArmingSettleEnd, whileRunning_of_running hrunning]
    simp only [State.armingSettled, hrun, hsettle, hmode]
    rfl
  · rw [exec, execArmingSettleEnd, whileRunning_of_running hrunning]
    simp only [State.armingSettled, hrun, hsettle, State.reach_engine, hmode]
    rfl
  · rw [exec, execWakeSettleEnd, whileRunning_of_running hrunning]
    simp only [State.wakeSettled, hrun, hsettle]
    rfl

/-! ### The scan timer and TRIG -/

/-- An expiry, by run state (R33). -/
theorem onExpiry_cases (s : State) :
    (s.engine.runState = .waiting → s.onExpiry = s.scanStart) ∧
    (s.engine.runState = .doze → s.onExpiry = inSettling s) ∧
    ((s.engine.runState = .settling ∨ s.engine.runState = .scanning) → s.onExpiry = s.overrun) ∧
    (s.engine.runState = .draining → s.onExpiry = s) := by
  refine ⟨fun h => ?_, fun h => ?_, ?_, fun h => ?_⟩
  · simp only [State.onExpiry, h]
  · simp only [State.onExpiry, h, enterSettling_eq_inSettling]
  · rintro (h | h) <;> simp only [State.onExpiry, h]
  · simp only [State.onExpiry, h]

/-- Settles O34: the timer reloads, and `onExpiry_cases` says the rest by run state. -/
theorem timerExpires : Obligations.TimerExpires := by
  rintro s _ period due hrunning htimer rfl
  have hexec : exec .timerExpiry s = .next (s.reloadTimer period due).onExpiry := by
    rw [exec, execTimerExpiry, whileRunning_of_running hrunning]
    simp only [State.timerExpires, htimer]
  obtain ⟨hwaiting, hdoze, hoverrun, hdraining⟩ := onExpiry_cases (s.reloadTimer period due)
  rw [hexec]
  refine ⟨fun h => ?_, fun h => ?_, fun h => ?_, fun h => ?_⟩
  · rw [hwaiting h]; rfl
  · rw [hdoze h]; rfl
  · rw [hoverrun h, overrun_eq_latched]; rfl
  · rw [hdraining h]; rfl

/-- A trigger, by mode and run state (R35). -/
theorem onTrigger_cases (s : State) :
    (s.engine.mode = .free → s.onTrigger = s) ∧
    (s.engine.mode = .triggered →
      (s.engine.runState = .waiting → s.onTrigger = s.scanStart) ∧
      (s.engine.runState = .doze → s.onTrigger = inSettling s) ∧
      ((s.engine.runState = .arming ∨ s.engine.runState = .settling ∨ InScan s) → s.onTrigger = s.missTrigger) ∧
      (s.engine.runState = .standby → s.onTrigger = s)) := by
  refine ⟨fun hm => ?_, fun hm => ⟨fun h => ?_, fun h => ?_, ?_, fun h => ?_⟩⟩
  · simp only [State.onTrigger, hm]
  · simp only [State.onTrigger, hm, h]
  · simp only [State.onTrigger, hm, h, enterSettling_eq_inSettling]
  · rintro (h | h | h | h) <;> simp only [State.onTrigger, hm, h]
  · simp only [State.onTrigger, hm, h]

theorem exec_trigEdge_of_running {s : State} (h : s.phase = .running) (direction : Edge) :
    exec (.trigEdge direction) s =
      .next
        { s with
          engine := { s.engine with qualifier := s.engine.qualifier.atEdge s.store.live.device direction } } := by
  rw [exec, execTrigEdge, whileRunning_of_running h]; rfl

/-- Settles O35: the qualifier at an edge, and a trigger taken as `onTrigger_cases` says. -/
theorem triggersQualifiedAndTaken : Obligations.TriggersQualifiedAndTaken := by
  refine ⟨fun s direction hrunning => ?_, ?_⟩
  · rw [exec_trigEdge_of_running hrunning]
    refine ⟨fun hidle hdir => ?_, fun hidle hdir => ?_, fun edge width htiming hdir => ?_⟩
    · simp only [hidle, Qualifier.atEdge, if_pos hdir]
    · simp only [hidle, Qualifier.atEdge, if_neg hdir]
      rw [← hidle]
    · simp only [htiming, Qualifier.atEdge, if_neg hdir]
  · rintro s _ edge width hrunning htiming rfl
    have hexec : exec .trigger s = .next (State.onTrigger { s with engine := { s.engine with qualifier := .idle } }) := by
      rw [exec, execTrigger, whileRunning_of_running hrunning]
      simp only [State.takeTrigger, htiming]
    obtain ⟨hfree, htriggered⟩ := onTrigger_cases { s with engine := { s.engine with qualifier := .idle } }
    rw [hexec]
    refine ⟨fun hm => ?_, fun hm => ?_⟩
    · rw [hfree hm]
    · obtain ⟨hwaiting, hdoze, hmissed, hstandby⟩ := htriggered hm
      refine ⟨fun h => ?_, fun h => ?_, fun h => ?_, fun h => ?_⟩
      · rw [hwaiting h]
      · rw [hdoze h]
      · rw [hmissed h, missTrigger_eq_latched]
      · rw [hstandby h]

/-! ### A scan start -/

/-- A scan start is its boundary, then a write of the engine and of the slot in flight. -/
theorem scanStart_eq {s applied : State} (h : s.countScan.boundary = applied) :
    s.scanStart =
      { applied with
        engine :=
          { applied.engine with
            timer :=
              s.engine.timer.atScanStart s.engine.mode (periodChanged s.store.live.device applied.store.live.device)
                applied.store.live.device.period s.now
            settle := none
            snapshot := .ofFn fun n => applied.trackers[n].appliedOffset
            scanEpoch := applied.store.epoch
            sync := .high
            runState := .scanning }
        frontEnd := { s.frontEnd with slot := some (slotBegun applied.store.live 0 (s.now + 200)) } } := by
  have htimer : applied.engine.timer = s.engine.timer := by rw [← h, boundary_engine_timer, State.countScan_engine_timer]
  have hmode : applied.engine.mode = s.engine.mode := by rw [← h, boundary_engine_mode, State.countScan_engine_mode]
  have hnow : applied.now = s.now := by rw [← h, boundary_now, State.countScan_now]
  have hfront : applied.frontEnd = s.frontEnd := by rw [← h, boundary_frontEnd, State.countScan_frontEnd]
  rw [← htimer, ← hmode, ← hnow, ← hfront, ← beginSlot_eq (k := 0) rfl, State.scanStart, h]
  rfl

theorem boundary_of_batch {s : State} {b : Batch} (h : s.store.batch = some b) : s.boundary = s.applyBatch b := by
  simp only [State.boundary, h]

theorem boundary_of_no_batch {s : State} (h : s.store.batch = none) : s.boundary = s := by
  simp only [State.boundary, h]

/-- A period has changed where one of its two fields has (R3, R32). -/
theorem periodChanged_eq (old new : DeviceConfig) :
    periodChanged old new = !decide (old.periodCount = new.periodCount ∧ old.periodScale = new.periodScale) := by
  simp [periodChanged, Bool.decide_and, Bool.not_and]

/-- Settles O36: a scan start as `scanStart_eq` gives it, with the timer by mode, and SYNC's end. -/
theorem scanStartEffects : Obligations.ScanStartEffects := by
  refine ⟨?_, fun s hrunning => ?_⟩
  · rintro s _ applied rfl happlied _ rfl
    have hboundary : s.countScan.boundary = applied := by
      rcases happlied with ⟨hb, rfl⟩ | ⟨b, hb, rfl⟩
      · exact boundary_of_no_batch hb
      · exact boundary_of_batch hb
    rw [scanStart_eq hboundary, periodChanged_eq]
    cases hmode : s.engine.mode <;> cases htimer : s.engine.timer
    case free.running period due =>
      by_cases hsame : s.store.live.device.periodCount = applied.store.live.device.periodCount ∧
          s.store.live.device.periodScale = applied.store.live.device.periodScale
      · simp only [ScanTimer.atScanStart, hsame, and_self, decide_true]
        rfl
      · simp only [ScanTimer.atScanStart, hsame, decide_false]
        rfl
    all_goals rfl
  · rw [exec, execSyncPulseEnd, whileRunning_of_running hrunning]

/-! ### Conversions -/

/-- The end of a conversion that the slot's discards count (R54). -/
theorem advance_of_discard {sl : SlotInFlight} (h : sl.phase = .discard) (status : ConversionStatus) (code : Int) :
    (2 ≤ sl.left → sl.advance status code = ({ sl with endsAt := sl.endsAt + 200, left := sl.left - 1 }, false)) ∧
    (sl.left = 1 →
      sl.advance status code = ({ sl with endsAt := sl.endsAt + 200, phase := .count, left := sl.oversample }, false)) := by
  refine ⟨fun hl => ?_, fun hl => ?_⟩
  · simp only [SlotInFlight.advance, h]
    rw [if_neg (by omega)]
    rfl
  · simp only [SlotInFlight.advance, h]
    rw [if_pos (by omega)]
    rfl

/-- The end of a conversion that is counted (R54). -/
theorem advance_of_count {sl : SlotInFlight} (h : sl.phase = .count) (driver : DriverState) (senseGood : Bool)
    (code : Int) :
    sl.advance (conversionStatus driver senseGood code) code =
      ({ afterCounted driver senseGood code { sl with endsAt := sl.endsAt + 200 } with left := sl.left - 1 },
        decide (sl.left ≤ 1)) := by
  simp only [SlotInFlight.advance, h, counted_eq_afterCounted]
  rfl

/-- What a counted conversion leaves of its slot. -/
theorem afterCounted_frame (driver : DriverState) (senseGood : Bool) (code : Int) (sl : SlotInFlight) :
    (afterCounted driver senseGood code sl).number = sl.number ∧ (afterCounted driver senseGood code sl).kind = sl.kind ∧
      (afterCounted driver senseGood code sl).channel = sl.channel ∧
      (afterCounted driver senseGood code sl).endsAt = sl.endsAt := by
  unfold afterCounted
  split_ifs <;> exact ⟨rfl, rfl, rfl, rfl⟩

/-- A conversion's end that goes on in its slot (R54). -/
theorem endConversion_of_goes_on {code : Int} {senseGood : Bool} (choice : Option Nat) {sl next : SlotInFlight} {s : State}
    (h : sl.advance (conversionStatus (s.drivers.get sl.group) senseGood code) code = (next, false)) :
    s.endConversion code senseGood choice sl =
      { s.reach sl.endsAt with frontEnd := { s.frontEnd with slot := some next } } := by
  simp only [State.endConversion, h]
  rfl

theorem endConversion_of_last {code : Int} {senseGood : Bool} (choice : Option Nat) {sl last : SlotInFlight} {s : State}
    (h : sl.advance (conversionStatus (s.drivers.get sl.group) senseGood code) code = (last, true)) :
    s.endConversion code senseGood choice sl = (s.reach sl.endsAt).endSlot choice last := by
  simp only [State.endConversion, h]

/-- A slot's end where the plan goes on (R39, R56). -/
theorem endSlot_of_next {sl : SlotInFlight} {s : State} {i : Fin 32} (hi : i.val = sl.number + 1)
    (hplan : i.val < s.store.live.device.planLength) (choice : Option Nat) :
    s.endSlot choice sl =
      { s with
        frontEnd :=
          { withReading sl.kind sl.channel (readingOf sl) s.frontEnd with
            slot := some (slotBegun s.store.live i sl.endsAt) } } := by
  have hnext : s.store.live.plan[sl.number + 1]? = some s.store.live.slots[i] := by
    rw [← hi]; exact plan_getElem?_eq hplan
  simp only [State.endSlot, hnext, append_eq_withReading, reading_eq_readingOf, beginSlot_eq hi.symm]

/-- A slot's end at the end of the plan (R40, R56). -/
theorem endSlot_of_last {sl : SlotInFlight} {s : State}
    (hplan : s.store.live.device.planLength ≤ sl.number + 1 ∨ 32 ≤ sl.number + 1) (choice : Option Nat) :
    s.endSlot choice sl =
      State.completeScan choice
        { s with frontEnd := { withReading sl.kind sl.channel (readingOf sl) s.frontEnd with slot := none } } := by
  simp only [State.endSlot, plan_getElem?_eq_none hplan, append_eq_withReading, reading_eq_readingOf]

theorem exec_conversionEnd_of_slot {s : State} {sl : SlotInFlight} (hrunning : s.phase = .running) (hscan : InScan s)
    (hsl : s.frontEnd.slot = some sl) (code : BitVec 24) (senseGood : Bool) (choice : Option Nat) :
    exec (.conversionEnd code senseGood choice) s = .next (s.endConversion code.toInt senseGood choice sl) := by
  rw [exec, execConversionEnd, whileRunning_of_running hrunning]
  simp only [State.conversionEnds, hsl, (scanInProgress_iff s).2 hscan, if_true]

/-- Settles O37: a conversion's end by the slot's phase and what is left of it, and a slot's end by what is left of the plan. -/
theorem conversionsWalkThePlan : Obligations.ConversionsWalkThePlan := by
  rintro s _ code senseGood choice sl _ counted hrunning hscan hsl rfl rfl hcounted
  rw [exec_conversionEnd_of_slot hrunning hscan hsl]
  replace hcounted : counted =
      afterCounted (s.drivers.get sl.group) senseGood code.toInt { sl with endsAt := sl.endsAt + 200 } := by
    rw [hcounted]
    cases sl.group <;> rfl
  have hcount (h : sl.phase = .count) := advance_of_count h (s.drivers.get sl.group) senseGood code.toInt
  rw [← hcounted] at hcount
  refine ⟨fun hp hl => ?_, fun hp hl => ?_, fun hp hl => ?_, fun hp hl => ?_⟩
  · rw [endConversion_of_goes_on choice ((advance_of_discard hp _ _).1 hl)]
    rfl
  · rw [endConversion_of_goes_on choice ((advance_of_discard hp _ _).2 hl)]
    rfl
  · rw [endConversion_of_goes_on choice ((hcount hp).trans (by rw [decide_eq_false (by omega)]))]
    rfl
  · obtain ⟨hnumber, hkind, hchannel, hends⟩ :=
      afterCounted_frame (s.drivers.get sl.group) senseGood code.toInt { sl with endsAt := sl.endsAt + 200 }
    rw [← hcounted] at hnumber hkind hchannel hends
    rw [endConversion_of_last choice ((hcount hp).trans (by rw [decide_eq_true (by omega)]))]
    refine ⟨fun i hi hplan => ?_, fun hplan => ?_⟩
    · rw [endSlot_of_next (s := s.reach sl.endsAt) (i := i) (by rw [hi, hnumber]) hplan]
      simp only [hkind, hchannel, hends]
      rfl
    · rw [endSlot_of_last (s := s.reach sl.endsAt) (by simpa [hnumber] using hplan)]
      simp only [hkind, hchannel]
      rfl

/-! ### DOZE -/

/-- The conditions of R45, in its order. -/
theorem dozeConditions_iff (s : State) :
    s.dozeConditions = true ↔
      s.store.live.device.doze = true ∧ s.link.holding = [] ∧ s.link.rxState = .hunt ∧ s.link.startBit = false ∧
        s.link.replies = [] ∧ s.link.transmitter = .idle ∧ s.link.readyNotice = none ∧ s.link.alertNotice = false ∧
        (s.report.queue = [] ∧ s.report.tally = none ∨ s.report.credits = 0) := by
  simp [State.dozeConditions, ReportSide.quiet, and_assoc]

theorem enterDoze_eq (s : State) :
    s.enterDoze =
      { s with
        drivers := ⟨restedDriver s.drivers.a, restedDriver s.drivers.b⟩
        engine := { s.engine with runState := .doze }
        link := { s.link with rxState := .wakeListen } } := by
  rw [← rest_eq_restedDriver, ← rest_eq_restedDriver]
  rfl

theorem wakeByStartBit_eq (s : State) :
    s.wakeByStartBit =
      { s with
        drivers :=
          ⟨wokenDriver s.store.live.device.exciteALevel s.drivers.a,
            wokenDriver s.store.live.device.exciteBLevel s.drivers.b⟩
        engine := { s.engine with runState := .waiting }
        link :=
          { s.link with
            rxState := .wakeQuiet
            counters := { s.link.counters with wakeDiscards := s.link.counters.wakeDiscards + 1 } } } := by
  rw [← wake_eq_wokenDriver, ← wake_eq_wokenDriver]
  rfl

/-- All that DOZE_ENTRY can do (R45). -/
theorem exec_dozeEntry_cases (s : State) :
    exec .dozeEntry s = .next s ∨
      s.engine.runState = .waiting ∧ s.dozeConditions = true ∧ exec .dozeEntry s = .next s.enterDoze := by
  rw [exec, execDozeEntry, State.whileRunning]
  split_ifs with hrunning h
  · exact .inr ⟨h.1, h.2, rfl⟩
  · exact .inl rfl
  · exact .inl rfl

theorem takeStartBit_of_ignored {s : State} (h : s.link.rxdLow = true ∨ s.link.rxState = .wakeQuiet) :
    s.takeStartBit = s := by
  unfold State.takeStartBit
  rcases h with h | h
  · rw [if_pos h]
  · simp only [h, ite_self]

/-- Settles O31: DOZE_ENTRY by its conditions, and WAKE and WAKE_QUIET_END by the receiver's state. -/
theorem dozeAndWake : Obligations.DozeAndWake := by
  refine ⟨?_, fun s t hexec hdoze haway => ?_, fun s hrunning hlisten hhigh => ?_, fun s hrunning hhigh hrx => ?_,
    fun s h => ?_, fun s hrunning hquiet hhigh => ?_⟩
  · intro s hrunning hwait hdoze hholding hrx hstart hreplies hidle hready halert hquiet
    have hconditions := (dozeConditions_iff s).2
      ⟨hdoze, hholding, hrx, hstart, hreplies, hidle, hready, halert, hquiet⟩
    rw [exec, execDozeEntry, whileRunning_of_running hrunning, if_pos ⟨hwait, hconditions⟩, enterDoze_eq]
  · rcases exec_dozeEntry_cases s with h | ⟨hwait, hconditions, -⟩
    · rw [h] at hexec
      cases hexec
      exact absurd hdoze haway
    · exact ⟨hwait, (dozeConditions_iff s).1 hconditions⟩
  · rw [exec, execWake, whileRunning_of_running hrunning, ← wakeByStartBit_eq]
    simp only [State.takeStartBit, hhigh, hlisten, Bool.false_eq_true, if_false]
  · rw [exec, execWake, whileRunning_of_running hrunning]
    unfold State.takeStartBit
    rw [hhigh]
    rcases hrx with h | h | h | h | h <;> rw [h] <;> rfl
  · rw [exec, execWake, State.whileRunning, takeStartBit_of_ignored h, ite_self]
  · rw [exec, execWakeQuietEnd, whileRunning_of_running hrunning, if_pos ⟨hquiet, hhigh⟩]
    rfl

end Sys2Proof.Machine
end

section
/-! PROOFS. The figures of a channel result (R62, R64 to R66), and the trip of a driver with what its latch and every other does
(R59, R60, R131 to R133, R136, R141). -/

namespace Sys2Proof.Machine

/-! ### The arithmetic of a channel result (R62, R64 to R66) -/

/-- A result where some measure value is valid: its three values, and whether a clamp changed one (R64, R65, R66). -/
theorem channelResult_of_present {cfg : ChannelConfig} {scan : Word32} {epoch : Word16} {offset raw corrected value : Int}
    {measure reference : List Reading} (hsome : validValues measure ≠ []) (hraw : rawMean (validValues measure) = raw)
    (hcorrected : clampValue (raw - offset) = corrected)
    (hvalue : clampValue ((corrected * cfg.scale).tdiv 16384) = value) :
    (channelResult cfg scan epoch offset measure reference).measured = some ⟨raw, corrected, value⟩ ∧
      ((channelResult cfg scan epoch offset measure reference).flags.clamped = true ↔
        corrected ≠ raw - offset ∨ value ≠ (corrected * cfg.scale).tdiv 16384) := by
  have hpresent : (validValues measure).isEmpty = false := by simpa using hsome
  simp [channelResult, correctedOf, scaledOf, hraw, hcorrected, hvalue, hpresent]

/-- Settles O44: each figure of `channelResult` is the statement's, a clamp being `boundedBy`. -/
theorem channelResultArithmetic : Obligations.ChannelResultArithmetic := by
  rintro cfg scan epoch offset raw corrected value measure reference r rfl hraw hcorrected hvalue
  rw [← clampValue_eq_boundedBy] at hcorrected hvalue
  refine ⟨rfl, rfl, rfl, rfl, rfl, ?_, ?_, List.isEmpty_iff, fun hnone => ?_, fun hsome => ?_⟩
  · simp [channelResult, or_and_right, exists_or]
  · simp [channelResult, or_and_right, exists_or]
  · simp [channelResult, hnone]
  · rw [← clampValue_ne_iff, ← clampValue_ne_iff, ← hcorrected, ← hvalue]
    exact channelResult_of_present hsome hraw.symm hcorrected.symm hvalue.symm

/-! ### Latches (R131, R133, R136) -/

/-- A latch of a key that has an entry raises that entry alone (R133). -/
theorem latchInto_of_entry {key : AlertKey} (scan : Word32) {before after : List AlertEntry} {e : AlertEntry}
    (h : AlertEntriesLaw (before ++ e :: after)) (he : e.key = key) :
    latchInto key scan (before ++ e :: after) =
      before ++ { e with lastScan := scan, occurrences := min (e.occurrences + 1) 65535 } :: after := by
  induction before with
  | nil => simp [latchInto, he, Config.saturation]
  | cons x before ih =>
    obtain ⟨hsorted, hcounts⟩ := h
    obtain ⟨hx, htail⟩ := List.pairwise_cons.1 hsorted
    have hlt : x.key.index < key.index := he ▸ hx e (by simp)
    have hne : x.key ≠ key := fun hk => by rw [hk] at hlt; omega
    rw [List.cons_append, latchInto, if_neg hne, if_neg (by omega),
      ih ⟨htail, fun y hy => hcounts y (List.mem_cons_of_mem _ hy)⟩, List.cons_append]

/-- A latch of a key with no entry puts one at its place, between those of lower and of higher index (R132, R133). -/
theorem latchInto_of_no_entry {key : AlertKey} (scan : Word32) {entries : List AlertEntry} (h : AlertEntriesLaw entries)
    (hnone : ∀ e ∈ entries, e.key ≠ key) :
    latchInto key scan entries =
      entries.filter (fun e => decide (e.key.index < key.index)) ++
        { key := key, firstScan := scan, lastScan := scan, occurrences := 1 } ::
          entries.filter (fun e => decide (key.index < e.key.index)) := by
  induction entries with
  | nil => rfl
  | cons x entries ih =>
    obtain ⟨hsorted, hcounts⟩ := h
    obtain ⟨hx, htail⟩ := List.pairwise_cons.1 hsorted
    obtain ⟨hne, hrest⟩ := List.forall_mem_cons.1 hnone
    rw [latchInto, if_neg hne]
    split_ifs with hlt
    · have habove : ∀ e ∈ x :: entries, key.index < e.key.index :=
        List.forall_mem_cons.2 ⟨hlt, fun e he => hlt.trans (hx e he)⟩
      rw [List.filter_eq_nil_iff.2 fun e he => by simpa using (habove e he).le,
        List.filter_eq_self.2 fun e he => by simpa using habove e he]
      rfl
    · have hbelow : x.key.index < key.index := by
        have : x.key.index ≠ key.index := fun hi => hne (AlertKey.index_injective hi)
        omega
      rw [ih ⟨htail, fun y hy => hcounts y (List.mem_cons_of_mem _ hy)⟩ hrest,
        List.filter_cons_of_pos (by simpa using hbelow), List.filter_cons_of_neg (by simpa using hbelow.le)]
      rfl

/-- Several latches are made in turn (R131). -/
theorem latchesInto_append (keys js : List AlertKey) (scan : Word32) (entries : List AlertEntry) :
    latchesInto (keys ++ js) scan entries = latchesInto js scan (latchesInto keys scan entries) :=
  List.foldl_append ..

/-- All that OVERCURRENT can do (R60). -/
theorem exec_overcurrent_of_running {s : State} (h : s.phase = .running) (g : Group) :
    (s.drivers.get g = .on → exec (.overcurrent g) s = .next
      (latched [.excitationTrip g] { s with drivers := s.drivers.put .tripped g })) ∧
    (s.drivers.get g ≠ .on → exec (.overcurrent g) s = .next s) := by
  rw [exec, execOvercurrent, whileRunning_of_running h, State.overcurrent]
  refine ⟨fun hon => ?_, fun hoff => ?_⟩
  · rw [if_pos hon, latch_eq_latched]
  · rw [if_neg hoff]

/-- Settles O39: a trip by its driver's state, and a latch by whether its key has an entry. -/
theorem overcurrentTrips : Obligations.OvercurrentTrips := by
  refine ⟨fun s hrunning => ?_, fun key => ?_, fun key scan entries hlaw => ⟨fun hnone => ?_, ?_⟩,
    fun keys key scan entries => latchesInto_append keys [key] scan entries, fun key s => ⟨fun hout => ?_, fun hclear => ?_⟩,
    fun s => ?_⟩
  · obtain ⟨hon, hoff⟩ := exec_overcurrent_of_running hrunning .a
    obtain ⟨kon, koff⟩ := exec_overcurrent_of_running hrunning .b
    exact ⟨hon, kon, hoff, koff⟩
  · cases key with
    | excitationTrip g => cases g <;> rfl
    | scanOverrun | triggerMissed | reportLoss | linkError | inputFault n | offsetAtLimit n => rfl
  · exact latchInto_of_no_entry scan hlaw hnone
  · rintro before e after rfl hkey
    exact latchInto_of_entry scan hlaw hkey
  · simp [latched, hout]
  · simp [latched, hclear]
  · unfold State.alertN
    split_ifs with hlow
    · exact iff_of_true rfl hlow
    · exact iff_of_false nofun hlow

end Sys2Proof.Machine
end

section
/-! PROOFS. What every command can do to the front end and to the snapshot of the scan in progress: one inversion lemma
(R26, R36, R43, R51 to R56, R63). -/

namespace Sys2Proof.Machine

/-! ### What leaves the front end alone -/

@[simp] theorem renewAlert_frontEnd (s : State) : s.renewAlert.frontEnd = s.frontEnd := by
  unfold State.renewAlert; split_ifs <;> rfl

@[simp] theorem ownGetState_frontEnd (f : Frame) (s : State) : (ownGetState f s).frontEnd = s.frontEnd := rfl

@[simp] theorem ownReset_frontEnd (f : Frame) (s : State) : (ownReset f s).frontEnd = s.frontEnd := rfl

@[simp] theorem ownReadCounters_frontEnd (f : Frame) (s : State) : (ownReadCounters f s).frontEnd = s.frontEnd := rfl

@[simp] theorem ownReadConfig_frontEnd (f : Frame) (s : State) : (ownReadConfig f s).frontEnd = s.frontEnd := by
  unfold ownReadConfig; split <;> rfl

@[simp] theorem ownRetrack_frontEnd (f : Frame) (s : State) : (ownRetrack f s).frontEnd = s.frontEnd := by
  unfold ownRetrack; split <;> simp

@[simp] theorem ownReadTracker_frontEnd (f : Frame) (s : State) : (ownReadTracker f s).frontEnd = s.frontEnd := by
  unfold ownReadTracker; split <;> rfl

@[simp] theorem ownReadResults_frontEnd (f : Frame) (s : State) : (ownReadResults f s).frontEnd = s.frontEnd := by
  unfold ownReadResults; split <;> rfl

@[simp] theorem ownSubscribe_frontEnd (f : Frame) (s : State) : (ownSubscribe f s).frontEnd = s.frontEnd := by
  unfold ownSubscribe; split <;> rfl

@[simp] theorem ownUnsubscribe_frontEnd (f : Frame) (s : State) : (ownUnsubscribe f s).frontEnd = s.frontEnd := by
  unfold ownUnsubscribe; split
  · split_ifs <;> rfl
  · rfl

@[simp] theorem ownListSubscriptions_frontEnd (f : Frame) (s : State) :
    (ownListSubscriptions f s).frontEnd = s.frontEnd := by
  unfold ownListSubscriptions; split
  · split_ifs <;> rfl
  · rfl

@[simp] theorem ownGrant_frontEnd (f : Frame) (s : State) : (ownGrant f s).frontEnd = s.frontEnd := by
  unfold ownGrant; split
  · split_ifs <;> rfl
  · rfl

@[simp] theorem ownAckAlerts_frontEnd (f : Frame) (s : State) : (ownAckAlerts f s).frontEnd = s.frontEnd := by
  unfold ownAckAlerts; dsimp only; split <;> simp

@[simp] theorem ownReadAlerts_frontEnd (f : Frame) (s : State) : (ownReadAlerts f s).frontEnd = s.frontEnd := by
  unfold ownReadAlerts; split
  · split_ifs <;> rfl
  · rfl

@[simp] theorem executeUnknown_frontEnd (s : State) : s.executeUnknown.frontEnd = s.frontEnd := by
  rcases executeUnknown_cases s with h | ⟨f, -, -, h⟩ <;> rw [h]; rfl

@[simp] theorem answerDuplicate_frontEnd (s : State) : s.answerDuplicate.frontEnd = s.frontEnd := by
  rcases answerDuplicate_cases s with h | ⟨f, m, -, -, -, h⟩ <;> rw [h]

@[simp] theorem timeoutFrame_frontEnd (s : State) : s.timeoutFrame.frontEnd = s.frontEnd := latch_frontEnd ..

@[simp] theorem lengthFault_frontEnd (s : State) : s.lengthFault.frontEnd = s.frontEnd := latch_frontEnd ..

@[simp] theorem arrival_frontEnd (f : RxFrame) (high low : Byte) (s : State) :
    (s.arrival f high low).frontEnd = s.frontEnd := by
  unfold State.arrival; split_ifs
  · exact latch_frontEnd ..
  · rfl
  · exact latch_frontEnd ..

@[simp] theorem receiveByte_frontEnd (b : Byte) (s : State) : (s.receiveByte b).frontEnd = s.frontEnd := by
  unfold State.receiveByte; dsimp only
  cases s.link.rxState with
  | inactive | wakeListen | wakeQuiet | body => rfl
  | hunt | sync => dsimp only; split_ifs <;> rfl
  | header =>
    dsimp only [State.headerByte]; split
    · split_ifs <;> simp
    · rfl
    · rfl
  | check => dsimp only [State.checkByte]; split <;> simp

@[simp] theorem receiveCharacter_frontEnd (ch : Character) (s : State) :
    (s.receiveCharacter ch).frontEnd = s.frontEnd := by
  unfold State.receiveCharacter; split_ifs
  · rfl
  · cases ch with
    | byte b => simp
    | framingError late => dsimp only [State.framingError]; split_ifs <;> simp

@[simp] theorem characterTimesOut_frontEnd (s : State) : s.characterTimesOut.frontEnd = s.frontEnd := by
  unfold State.characterTimesOut; split_ifs <;> simp

@[simp] theorem takeStartBit_frontEnd (s : State) : s.takeStartBit.frontEnd = s.frontEnd := by
  unfold State.takeStartBit; split_ifs
  · rfl
  · split <;> rfl

@[simp] theorem resetNHigh_frontEnd (rate : Level) (s : State) : (s.resetNHigh rate).frontEnd = s.frontEnd := by
  unfold State.resetNHigh; split <;> rfl

@[simp] theorem endStartUp_frontEnd (s : State) : s.endStartUp.frontEnd = s.frontEnd := by
  unfold State.endStartUp; split <;> rfl

@[simp] theorem overcurrent_frontEnd (g : Group) (s : State) : (s.overcurrent g).frontEnd = s.frontEnd := by
  unfold State.overcurrent; split_ifs <;> simp

@[simp] theorem overrun_frontEnd (s : State) : s.overrun.frontEnd = s.frontEnd := latch_frontEnd ..

@[simp] theorem missTrigger_frontEnd (s : State) : s.missTrigger.frontEnd = s.frontEnd := latch_frontEnd ..

/-! ### What a command can do to the front end -/

/-- The front end and the snapshot are as before, and in a scan the configuration is. -/
structure FrontEndKept (s t : State) : Prop where
  frontEnd : t.frontEnd = s.frontEnd
  snapshot : t.engine.snapshot = s.engine.snapshot
  live : InScan s → t.store.live = s.store.live

/-- All that a command can do to the front end: leave it alone, abort its scan, take the reset values, start a scan, or end the
conversion in flight. -/
inductive FrontEndEffect (s t : State) : Prop
  | kept (h : FrontEndKept s t)
  | aborted (frontEnd : t.frontEnd = s.clearScan.frontEnd) (snapshot : t.engine.snapshot = s.engine.snapshot)
  | reset (frontEnd : t.frontEnd = .reset) (engine : t.engine = .reset)
  | started (between : ¬ InScan s) (u : State) (store : u.store = s.store) (trackers : u.trackers = s.trackers)
      (frontEnd : u.frontEnd = s.frontEnd) (effect : t = u.scanStart)
  | converted (scan : InScan s) (sl : SlotInFlight) (slot : s.frontEnd.slot = some sl) (code : BitVec 24) (senseGood : Bool)
      (choice : Option Nat) (effect : t = s.endConversion code.toInt senseGood choice sl)

theorem FrontEndKept.of_storeKept {s t : State} (h : StoreKept s t) (hf : t.frontEnd = s.frontEnd) : FrontEndKept s t :=
  ⟨hf, h.snapshot, fun _ => by rw [h.store]⟩

theorem FrontEndKept.refl (s : State) : FrontEndKept s s := ⟨rfl, rfl, fun _ => rfl⟩

theorem frontEndEffect_whileRunning {f : State → State} {s : State} (h : FrontEndEffect s (f s)) :
    FrontEndEffect s (s.whileRunning f) := by
  unfold State.whileRunning
  split_ifs
  · exact h
  · exact .kept (.refl s)

/-! ### Requests -/

/-- A request command leaves of the front end what its own part leaves. -/
theorem frontEndKept_execute {k : RequestKind} {own : Frame → State → State} (h : ∀ f s, FrontEndKept s (own f s))
    (s : State) : FrontEndKept s (s.execute k own) := by
  rcases execute_cases k own s with he | ⟨f, -, -, ⟨-, he⟩ | ⟨r, -, he⟩⟩ <;> rw [he]
  · exact .refl s
  · obtain ⟨hfront, hsnap, hlive⟩ := h f s.takeHead
    exact ⟨hfront, hsnap, hlive⟩
  · exact ⟨rfl, rfl, fun _ => rfl⟩

/-- A request whose own part leaves the store and the front end alone. -/
theorem frontEndEffect_request {k : RequestKind} {own : Frame → State → State}
    (hfront : ∀ f s, (own f s).frontEnd = s.frontEnd) (hstore : ∀ f s, StoreKept s (own f s)) (s : State) :
    FrontEndEffect s (s.execute k own) :=
  .kept (frontEndKept_execute (fun f u => .of_storeKept (hstore f u) (hfront f u)) s)

theorem frontEndKept_hello (f : Frame) (s : State) : FrontEndKept s (ownHello f s) := by
  unfold ownHello
  split
  · exact ⟨rfl, rfl, fun _ => rfl⟩
  · exact ⟨by simp, by simp, fun _ => by simp [State.openSession]⟩

theorem frontEndKept_discard (f : Frame) (s : State) : FrontEndKept s (ownDiscard f s) := ⟨rfl, rfl, fun _ => rfl⟩

theorem frontEndKept_stage (f : Frame) (s : State) : FrontEndKept s (ownStage f s) := by
  unfold ownStage
  split
  · exact ⟨rfl, rfl, fun _ => rfl⟩
  · dsimp only
    split_ifs <;> exact ⟨rfl, rfl, fun _ => rfl⟩

/-- SEAL applies its batch in STANDBY alone (R18). -/
theorem frontEndKept_seal (f : Frame) (s : State) : FrontEndKept s (ownSeal f s) := by
  unfold ownSeal
  split
  · exact ⟨rfl, rfl, fun _ => rfl⟩
  · dsimp only
    split_ifs with hstandby
    · exact ⟨by simp, by simp, fun hscan => by simp [InScan, hstandby] at hscan⟩
    · exact ⟨rfl, rfl, fun _ => rfl⟩

theorem frontEndKept_start (f : Frame) (s : State) : FrontEndKept s (ownStart f s) := by
  unfold ownStart
  split <;> exact ⟨rfl, rfl, fun _ => rfl⟩

/-- An entry into STANDBY between two scans. -/
theorem frontEndKept_enterStandby {s : State} (h : ¬ InScan s) : FrontEndKept s s.enterStandby :=
  ⟨by simp, by simp, fun hs => absurd hs h⟩

theorem frontEndKept_stop (f : Frame) (s : State) : FrontEndKept s (ownStop f s) := by
  have hrun : FrontEndKept s s.stopRun := by
    unfold State.stopRun
    cases hrun : s.engine.runState with
    | scanning => exact ⟨rfl, rfl, fun _ => rfl⟩
    | standby | draining => exact .refl s
    | arming | waiting | doze | settling => exact frontEndKept_enterStandby (by simp [InScan, hrun])
  exact ⟨hrun.frontEnd, hrun.snapshot, hrun.live⟩

/-- ABORT drops the slot and the lists of a scan in progress (R43). -/
theorem abortRun_frontEnd (s : State) :
    FrontEndKept s s.abortRun ∨
      s.abortRun.frontEnd = s.clearScan.frontEnd ∧ s.abortRun.engine.snapshot = s.engine.snapshot := by
  unfold State.abortRun
  cases hrun : s.engine.runState with
  | scanning | draining => exact .inr ⟨enterStandby_frontEnd _, enterStandby_engine_snapshot _⟩
  | standby => exact .inl (.refl s)
  | arming | waiting | doze | settling => exact .inl (frontEndKept_enterStandby (by simp [InScan, hrun]))

theorem frontEndEffect_abort (s : State) : FrontEndEffect s (s.execute .abort ownAbort) := by
  rcases execute_cases .abort ownAbort s with he | ⟨f, -, -, ⟨-, he⟩ | ⟨r, -, he⟩⟩ <;> rw [he]
  · exact .kept (.refl s)
  · rcases abortRun_frontEnd s.takeHead with ⟨hfront, hsnap, hlive⟩ | ⟨hfront, hsnap⟩
    · exact .kept ⟨hfront, hsnap, hlive⟩
    · exact .aborted hfront hsnap
  · exact .kept ⟨rfl, rfl, fun _ => rfl⟩

/-! ### Events -/

theorem storeKept_characterEnds (s : State) : StoreKept s s.characterEnds := .of_eq rfl rfl

theorem frontEndEffect_receiveBreak (rate : Level) (s : State) : FrontEndEffect s (s.receiveBreak rate) := by
  unfold State.receiveBreak
  split_ifs
  · exact .kept (.refl s)
  all_goals dsimp only; split_ifs
  · exact .reset rfl rfl
  · exact .kept ⟨rfl, rfl, fun _ => rfl⟩
  · exact .reset rfl rfl
  · exact .kept ⟨rfl, rfl, fun _ => rfl⟩

theorem frontEndEffect_endTransmission (rate : Level) (s : State) : FrontEndEffect s (s.endTransmission rate) := by
  unfold State.endTransmission
  split
  · exact .kept (.refl s)
  · dsimp only
    split_ifs
    · exact .reset rfl rfl
    · exact .kept ⟨rfl, rfl, fun _ => rfl⟩

theorem frontEndEffect_powerOn (resetN rate : Level) (s : State) : FrontEndEffect s (s.powerOn resetN rate) := by
  cases resetN <;> exact .reset rfl rfl

theorem frontEndEffect_resetNLow (s : State) : FrontEndEffect s s.resetNLow := by
  unfold State.resetNLow
  split
  · exact .kept (.refl s)
  · exact .reset rfl rfl
  · exact .reset rfl rfl

theorem frontEndEffect_armingSettled (s : State) : FrontEndEffect s s.armingSettled := by
  unfold State.armingSettled
  split
  · next expiry hrun _ =>
    dsimp only
    split
    · exact .started (by simp [InScan, hrun]) (s.reach expiry) rfl rfl rfl rfl
    · exact .kept ⟨rfl, rfl, fun _ => rfl⟩
  · exact .kept (.refl s)

theorem frontEndEffect_wakeSettled (s : State) : FrontEndEffect s s.wakeSettled := by
  unfold State.wakeSettled
  split
  · next expiry hrun _ => exact .started (by simp [InScan, hrun]) (s.reach expiry) rfl rfl rfl rfl
  · exact .kept (.refl s)

/-- A timer expiry, after its reload. -/
theorem frontEndEffect_onExpiry {s u : State} (hu : StoreKept s u) (hrun : u.engine.runState = s.engine.runState)
    (htrackers : u.trackers = s.trackers) (hfront : u.frontEnd = s.frontEnd) : FrontEndEffect s u.onExpiry := by
  unfold State.onExpiry
  split
  · next hwaiting => exact .started (by simp [InScan, ← hrun, hwaiting]) u hu.store htrackers hfront rfl
  · exact .kept (.of_storeKept (hu.trans (storeKept_enterSettling u)) hfront)
  · exact .kept (.of_storeKept (hu.trans (storeKept_overrun u)) ((overrun_frontEnd u).trans hfront))
  · exact .kept (.of_storeKept (hu.trans (storeKept_overrun u)) ((overrun_frontEnd u).trans hfront))
  all_goals exact .kept (.of_storeKept hu hfront)

theorem frontEndEffect_timerExpires (s : State) : FrontEndEffect s s.timerExpires := by
  unfold State.timerExpires
  split
  · exact .kept (.refl s)
  · refine frontEndEffect_onExpiry ?_ rfl rfl rfl
    exact ⟨rfl, rfl, rfl, rfl, id⟩

/-- A trigger, after the qualifier's return to IDLE. -/
theorem frontEndEffect_onTrigger {s u : State} (hu : StoreKept s u) (hrun : u.engine.runState = s.engine.runState)
    (htrackers : u.trackers = s.trackers) (hfront : u.frontEnd = s.frontEnd) : FrontEndEffect s u.onTrigger := by
  have hmissed : FrontEndEffect s u.missTrigger :=
    .kept (.of_storeKept (hu.trans (storeKept_missTrigger u)) ((missTrigger_frontEnd u).trans hfront))
  unfold State.onTrigger
  cases u.engine.mode with
  | free => exact .kept (.of_storeKept hu hfront)
  | triggered =>
    cases hwaiting : u.engine.runState with
    | waiting => exact .started (by simp [InScan, ← hrun, hwaiting]) u hu.store htrackers hfront rfl
    | doze => exact .kept (.of_storeKept (hu.trans (storeKept_enterSettling u)) hfront)
    | arming | settling | scanning | draining => exact hmissed
    | standby => exact .kept (.of_storeKept hu hfront)

theorem frontEndEffect_takeTrigger (s : State) : FrontEndEffect s s.takeTrigger := by
  unfold State.takeTrigger
  split
  · exact .kept (.refl s)
  · refine frontEndEffect_onTrigger ?_ rfl rfl rfl
    exact ⟨rfl, rfl, rfl, rfl, id⟩

theorem frontEndEffect_conversionEnds (code : BitVec 24) (senseGood : Bool) (choice : Option Nat) (s : State) :
    FrontEndEffect s (s.conversionEnds code senseGood choice) := by
  unfold State.conversionEnds
  split
  · exact .kept (.refl s)
  · next sl hsl =>
    split_ifs with hscan
    · exact .converted ((scanInProgress_iff s).1 hscan) sl hsl code senseGood choice rfl
    · exact .kept (.refl s)

/-- What a command can do to the front end, command by command. -/
theorem exec_frontEndEffect {c : Instr} {s t : State} (h : exec c s = .next t) : FrontEndEffect s t := by
  cases c <;> obtain rfl := Host.Outcome.next.inj h
  case hello => exact .kept (frontEndKept_execute frontEndKept_hello s)
  case getState => exact frontEndEffect_request ownGetState_frontEnd (fun f u => .of_eq rfl rfl) s
  case reset => exact frontEndEffect_request ownReset_frontEnd (fun f u => .of_eq rfl rfl) s
  case stage => exact .kept (frontEndKept_execute frontEndKept_stage s)
  case discard => exact .kept (frontEndKept_execute frontEndKept_discard s)
  case readConfig => exact frontEndEffect_request ownReadConfig_frontEnd storeKept_readConfig s
  case start => exact .kept (frontEndKept_execute frontEndKept_start s)
  case stop => exact .kept (frontEndKept_execute frontEndKept_stop s)
  case abort => exact frontEndEffect_abort s
  case retrack => exact frontEndEffect_request ownRetrack_frontEnd storeKept_retrack s
  case readTracker => exact frontEndEffect_request ownReadTracker_frontEnd storeKept_readTracker s
  case readResults => exact frontEndEffect_request ownReadResults_frontEnd storeKept_readResults s
  case subscribe => exact frontEndEffect_request ownSubscribe_frontEnd storeKept_subscribe s
  case unsubscribe => exact frontEndEffect_request ownUnsubscribe_frontEnd storeKept_unsubscribe s
  case listSubscriptions => exact frontEndEffect_request ownListSubscriptions_frontEnd storeKept_listSubscriptions s
  case grant => exact frontEndEffect_request ownGrant_frontEnd storeKept_grant s
  case ackAlerts => exact frontEndEffect_request ownAckAlerts_frontEnd storeKept_ackAlerts s
  case readAlerts => exact frontEndEffect_request ownReadAlerts_frontEnd storeKept_readAlerts s
  case readCounters => exact frontEndEffect_request ownReadCounters_frontEnd (fun f u => .of_eq rfl rfl) s
  case unknownKind => exact .kept (.of_storeKept (storeKept_unknown s) (executeUnknown_frontEnd s))
  case duplicate => exact .kept (.of_storeKept (storeKept_duplicate s) (answerDuplicate_frontEnd s))
  case frameArrival b =>
    refine frontEndEffect_whileRunning (.kept ?_)
    split_ifs
    · exact .of_storeKept ((storeKept_characterEnds s).trans (storeKept_receiveByte b _)) (receiveByte_frontEnd b _)
    · exact .refl s
  case lengthError b =>
    refine frontEndEffect_whileRunning (.kept ?_)
    split_ifs
    · exact .of_storeKept ((storeKept_characterEnds s).trans (storeKept_lengthFault _)) (lengthFault_frontEnd _)
    · exact .refl s
  case characterTimeout =>
    exact frontEndEffect_whileRunning (.kept (.of_storeKept (storeKept_characterTimesOut s) (characterTimesOut_frontEnd s)))
  case breakDetected rate => exact frontEndEffect_whileRunning (frontEndEffect_receiveBreak rate s)
  case breakEnd => exact frontEndEffect_whileRunning (.kept ⟨rfl, rfl, fun _ => rfl⟩)
  case wake =>
    exact frontEndEffect_whileRunning (.kept (.of_storeKept (storeKept_takeStartBit s) (takeStartBit_frontEnd s)))
  case wakeQuietEnd =>
    refine frontEndEffect_whileRunning (.kept ?_)
    split_ifs <;> exact ⟨rfl, rfl, fun _ => rfl⟩
  case arbiterChoice =>
    exact .kept (.of_storeKept (.of_eq (arbiter_store s) (arbiter_engine s)) (arbiter_frontEnd s))
  case transmitEnd rate => exact frontEndEffect_whileRunning (frontEndEffect_endTransmission rate s)
  case powerOn resetN rate => exact frontEndEffect_powerOn resetN rate s
  case resetNLow => exact frontEndEffect_resetNLow s
  case resetNHigh rate => exact .kept (.of_storeKept (storeKept_resetNHigh rate s) (resetNHigh_frontEnd rate s))
  case startUpEnd => exact .kept (.of_storeKept (storeKept_endStartUp s) (endStartUp_frontEnd s))
  case armingSettleEnd => exact frontEndEffect_whileRunning (frontEndEffect_armingSettled s)
  case timerExpiry => exact frontEndEffect_whileRunning (frontEndEffect_timerExpires s)
  case trigEdge direction => exact frontEndEffect_whileRunning (.kept ⟨rfl, rfl, fun _ => rfl⟩)
  case trigger => exact frontEndEffect_whileRunning (frontEndEffect_takeTrigger s)
  case wakeSettleEnd => exact frontEndEffect_whileRunning (frontEndEffect_wakeSettled s)
  case syncPulseEnd => exact frontEndEffect_whileRunning (.kept ⟨rfl, rfl, fun _ => rfl⟩)
  case conversionEnd code senseGood choice =>
    exact frontEndEffect_whileRunning (frontEndEffect_conversionEnds code senseGood choice s)
  case dozeEntry =>
    refine frontEndEffect_whileRunning (.kept ?_)
    split_ifs <;> exact ⟨rfl, rfl, fun _ => rfl⟩
  case overcurrent g =>
    exact frontEndEffect_whileRunning (.kept (.of_storeKept (storeKept_overcurrent g s) (overcurrent_frontEnd g s)))
  case characterReceived ch =>
    exact frontEndEffect_whileRunning (.kept
      (.of_storeKept (storeKept_receiveCharacter ch s) (receiveCharacter_frontEnd ch s)))
  -- SEAL is left, whose constructor's name is a word of Lean and cannot stand after `case`.
  · exact .kept (frontEndKept_execute frontEndKept_seal s)

end Sys2Proof.Machine
end

section
/-! PROOFS. The law of the front end: the slot in flight, the readings, the snapshot and the results stay in their ranges
(R53 to R56, R62). -/

namespace Sys2Proof.Machine

/-! ### The slot in flight and its readings -/

theorem InRange.oversample_pos {c : Configuration} (h : InRange c) (n : Fin 16) : 1 ≤ c.channels[n].oversample := by
  have := h (.channel n .oversample)
  simp [FieldRef.inRange, ChannelField.inRange, Configuration.get, ChannelConfig.get] at this
  change 1 ≤ c.channels[n.val].oversample
  omega

theorem InRange.planLength_range {c : Configuration} (h : InRange c) : 1 ≤ c.device.planLength ∧ c.device.planLength ≤ 32 := by
  have := h (.device .planLength)
  simp [FieldRef.inRange, DeviceField.inRange, within, Configuration.get, DeviceConfig.get] at this
  omega

/-- A slot that begins keeps the slot law (R54). -/
theorem slotLaw_slotBegun {c : Configuration} (h : InRange c) (i : Fin 32) (endsAt : Nat) :
    SlotLaw (slotBegun c i endsAt) where
  oversample := h.oversample_pos _
  left := by
    have := h.oversample_pos c.slots[i].channel
    simp only [slotBegun]
    split_ifs <;> omega
  discard _ := ⟨rfl, rfl, rfl⟩
  count hcount := by
    simp only [slotBegun] at hcount ⊢
    split_ifs at hcount with hd
    rw [if_pos hd]
    simp

theorem afterCounted_oversample_phase (driver : DriverState) (senseGood : Bool) (code : Int) (sl : SlotInFlight) :
    (afterCounted driver senseGood code sl).oversample = sl.oversample ∧
      (afterCounted driver senseGood code sl).phase = sl.phase := by
  unfold afterCounted
  split_ifs <;> exact ⟨rfl, rfl⟩

/-- The running sum after one conversion more is counted, against the number counted by then (R54). -/
theorem SlotLaw.sum_afterCounted {sl : SlotInFlight} (h : SlotLaw sl) (hphase : sl.phase = .count) (driver : DriverState)
    (senseGood : Bool) (code : BitVec 24) (endsAt : Nat) :
    -8388607 * ((sl.oversample - (sl.left - 1) : Nat) : Int) ≤
        (afterCounted driver senseGood code.toInt { sl with endsAt := endsAt }).sum ∧
      (afterCounted driver senseGood code.toInt { sl with endsAt := endsAt }).sum ≤
        8388606 * ((sl.oversample - (sl.left - 1) : Nat) : Int) := by
  obtain ⟨hle, hlow, hhigh⟩ := h.count hphase
  have hleft := h.left
  rw [show sl.oversample - (sl.left - 1) = sl.oversample - sl.left + 1 by omega]
  exact afterCounted_sum (sl := { sl with endsAt := endsAt }) hlow hhigh

/-- A conversion that is discarded is not its slot's last (R54). -/
theorem advance_snd_of_discard {sl : SlotInFlight} (h : sl.phase = .discard) (status : ConversionStatus) (code : Int) :
    (sl.advance status code).2 = false := by
  simp only [SlotInFlight.advance, h]
  split_ifs <;> rfl

/-- The end of a conversion that its slot goes on after keeps the slot law and the slot's number (R54). -/
theorem slotLaw_advance {driver : DriverState} {senseGood : Bool} {code : BitVec 24} {sl next : SlotInFlight}
    (h : SlotLaw sl)
    (hadvance : sl.advance (conversionStatus driver senseGood code.toInt) code.toInt = (next, false)) :
    SlotLaw next ∧ next.number = sl.number := by
  have hleft := h.left
  cases hphase : sl.phase with
  | discard =>
    obtain ⟨hsum, hopen, hsat⟩ := h.discard hphase
    obtain ⟨hmore, hlast⟩ := advance_of_discard hphase (conversionStatus driver senseGood code.toInt) code.toInt
    by_cases hl : sl.left = 1
    · obtain ⟨rfl, -⟩ := Prod.mk.inj ((hlast hl).symm.trans hadvance)
      exact ⟨⟨h.oversample, h.oversample, nofun, fun _ => by simp [hsum]⟩, rfl⟩
    · obtain ⟨rfl, -⟩ := Prod.mk.inj ((hmore (by omega)).symm.trans hadvance)
      exact ⟨⟨h.oversample, by simp only; omega, fun _ => ⟨hsum, hopen, hsat⟩, fun hc => by simp [hphase] at hc⟩, rfl⟩
  | count =>
    obtain ⟨hle, -⟩ := h.count hphase
    rw [advance_of_count hphase] at hadvance
    obtain ⟨rfl, hlast⟩ := Prod.mk.inj hadvance
    have hmore : ¬ sl.left ≤ 1 := of_decide_eq_false hlast
    obtain ⟨hoversample, hcounting⟩ :=
      afterCounted_oversample_phase driver senseGood code.toInt { sl with endsAt := sl.endsAt + 200 }
    refine ⟨⟨by rw [hoversample]; exact h.oversample, by simp only; omega, fun hc => ?_, fun _ => ?_⟩,
      (afterCounted_frame ..).1⟩
    · rw [hcounting, hphase] at hc; cases hc
    · simp only [hoversample]
      exact ⟨by omega, h.sum_afterCounted hphase driver senseGood code _⟩

/-- The last conversion of a slot leaves a reading in the codes' range, of the slot's number (R54, R55). -/
theorem codeRange_of_last {driver : DriverState} {senseGood : Bool} {code : BitVec 24} {sl last : SlotInFlight}
    (h : SlotLaw sl)
    (hadvance : sl.advance (conversionStatus driver senseGood code.toInt) code.toInt = (last, true)) :
    last.number = sl.number ∧ ∀ v, (readingOf last).outcome = .valid v → CodeRange v := by
  cases hphase : sl.phase with
  | discard =>
    have hgoes := advance_snd_of_discard hphase (conversionStatus driver senseGood code.toInt) code.toInt
    rw [hadvance] at hgoes
    cases hgoes
  | count =>
    rw [advance_of_count hphase] at hadvance
    obtain ⟨rfl, hlast⟩ := Prod.mk.inj hadvance
    have hleft : sl.left ≤ 1 := of_decide_eq_true hlast
    obtain ⟨hoversample, -⟩ :=
      afterCounted_oversample_phase driver senseGood code.toInt { sl with endsAt := sl.endsAt + 200 }
    obtain ⟨hlow, hhigh⟩ := h.sum_afterCounted hphase driver senseGood code (sl.endsAt + 200)
    rw [show sl.oversample - (sl.left - 1) = sl.oversample by omega] at hlow hhigh
    refine ⟨(afterCounted_frame ..).1, fun v hv => ?_⟩
    rw [readingOf_left] at hv
    exact codeRange_readingOf (by rw [hoversample]; exact h.oversample) (by rw [hoversample]; exact hlow)
      (by rw [hoversample]; exact hhigh) hv

theorem mem_validValues_append {rs : List Reading} {r : Reading} {v : Int} (h : v ∈ validValues (rs ++ [r])) :
    v ∈ validValues rs ∨ r.outcome = .valid v := by
  rw [validValues, List.filterMap_append, List.mem_append] at h
  refine h.imp id fun hr => ?_
  cases ho : r.outcome <;> simp [Reading.value?, ho] at hr
  rw [hr]

theorem withReading_measure (kind : SlotKind) (n m : Fin 16) (r : Reading) (f : FrontEnd) :
    (withReading kind n r f).measure[m] =
      if kind = .measure ∧ m = n then f.measure[m] ++ [r] else f.measure[m] := by
  simp [withReading]

theorem withReading_reference (kind : SlotKind) (n m : Fin 16) (r : Reading) (f : FrontEnd) :
    (withReading kind n r f).reference[m] =
      if kind = .reference ∧ m = n then f.reference[m] ++ [r] else f.reference[m] := by
  simp [withReading]

/-- A reading in the codes' range keeps the readings law, for one more slot walked (R55, R56). -/
theorem readingsLaw_withReading {walked : Nat} {f : FrontEnd} {kind : SlotKind} {n : Fin 16} {r : Reading}
    (h : ReadingsLaw walked f) (hr : ∀ v, r.outcome = .valid v → CodeRange v) :
    ReadingsLaw (walked + 1) (withReading kind n r f) where
  measure m v hv := by
    rw [withReading_measure] at hv
    split_ifs at hv
    · exact (mem_validValues_append hv).elim (h.measure m v) (hr v)
    · exact h.measure m v hv
  reference m v hv := by
    rw [withReading_reference] at hv
    split_ifs at hv
    · exact (mem_validValues_append hv).elim (h.reference m v) (hr v)
    · exact h.reference m v hv
  counts m := by
    have := h.counts m
    rw [withReading_measure, withReading_reference]
    split_ifs with hmeasure hreference
    · exact absurd (hmeasure.1.symm.trans hreference.1) nofun
    · rw [List.length_append, List.length_singleton]; omega
    · rw [List.length_append, List.length_singleton]; omega
    · omega

/-- The readings law does not speak of the slot. -/
theorem ReadingsLaw.setSlot {walked : Nat} {f : FrontEnd} (h : ReadingsLaw walked f) (slot : Option SlotInFlight) :
    ReadingsLaw walked { f with slot := slot } :=
  ⟨h.measure, h.reference, h.counts⟩

theorem readingsLaw_empty {walked : Nat} {f : FrontEnd} (h : ∀ n : Fin 16, f.measure[n] = [] ∧ f.reference[n] = []) :
    ReadingsLaw walked f := by
  constructor <;> intro n <;> obtain ⟨hm, hr⟩ := h n <;> simp [hm, hr, validValues]

/-! ### The law's parts outside the slot in flight -/

/-- The snapshot lies in the offsets' range. -/
def SnapshotLaw (s : State) : Prop := ∀ n : Fin 16, -1048575 ≤ s.engine.snapshot[n] ∧ s.engine.snapshot[n] ≤ 1048575

/-- Every result has the ranges of R62. -/
def ResultsLaw (s : State) : Prop := ∀ n : Fin 16, ∀ r, s.frontEnd.results[n] = some r → ResultLaw r

/-- Where no slot is in flight the two parts make the law. -/
theorem FrontEndLaw.of_no_slot {s : State} (hslot : s.frontEnd.slot = none) (hsnap : SnapshotLaw s)
    (hresults : ResultsLaw s) : FrontEndLaw s where
  slot sl hsl := by rw [hslot] at hsl; cases hsl
  snapshot := hsnap
  results := hresults

/-! ### A scan start -/

/-- A boundary keeps the tracker law: an application takes each record to one that agrees with the new configuration (R20, R89). -/
theorem trackerLaw_boundary {p : Prop} {s : State} (hstore : StoreLaw p s.store) (h : TrackerLaw s) :
    TrackerLaw s.boundary := by
  rcases boundary_cases s with ⟨-, he⟩ | ⟨b, hb, he⟩ <;> rw [he]
  · exact h
  · intro n
    obtain ⟨hedits, -⟩ := hstore.edits b hb
    have hrange := inRange_applyEdits hstore.inRange hedits.checked
    rw [applyBatch_tracker, applyBatch_store]
    exact recordLaw_applied (channelOk hrange (hstore.prospect b hb) n) (h n)

/-- The snapshot of a scan start is of offsets within their bounds (R36, R70). -/
theorem snapshotLaw_scanStart {p : Prop} {s : State} (hstore : StoreLaw p s.store) (h : TrackerLaw s) :
    SnapshotLaw s.scanStart := by
  intro n
  have hlaw : TrackerLaw s.countScan.boundary := trackerLaw_boundary (s := s.countScan) hstore h
  have hbound := (hlaw n).bounded
  have happlied : StoreLaw p s.countScan.boundary.store := by
    rw [boundary_store]; exact storeLaw_atBoundary hstore
  have hmax := (channelOk happlied.inRange happlied.passes n).correction
  rw [scanStart_engine_snapshot, scanStart_trackers]
  omega

/-! ### Completions -/

theorem completeScan_frontEnd (choice : Option Nat) (s : State) :
    (s.completeScan choice).frontEnd = (s.completed choice).frontEnd ∧
      (s.completeScan choice).engine.snapshot = s.engine.snapshot := by
  rw [completeScan_eq]
  split_ifs
  · rw [State.setRunState_frontEnd, State.setRunState_engine_snapshot, completed_engine_snapshot]
    exact ⟨rfl, rfl⟩
  · rw [enterStandby_frontEnd, enterStandby_engine_snapshot, completed_engine_snapshot]
    exact ⟨rfl, rfl⟩

/-! ### The law -/

theorem FrontEndLaw.of_kept {s t : State} (k : FrontEndKept s t) (hslot : s.frontEnd.slot ≠ none → InScan s)
    (h : FrontEndLaw s) : FrontEndLaw t where
  slot sl hsl := by
    rw [k.frontEnd] at hsl ⊢
    rw [k.live (hslot (by rw [hsl]; nofun))]
    exact h.slot sl hsl
  snapshot := by rw [k.snapshot]; exact h.snapshot
  results := by rw [k.frontEnd]; exact h.results

theorem frontEndLaw_reset {s : State} (hf : s.frontEnd = .reset) (he : s.engine = .reset) : FrontEndLaw s := by
  refine .of_no_slot (by rw [hf]; rfl) (fun n => ?_) fun n r hr => ?_
  · simp [he, ScanEngine.reset]
  · simp [hf, FrontEnd.reset] at hr

theorem frontEndLaw_scanStart {p : Prop} {s : State} (hstore : StoreLaw p s.store) (htrackers : TrackerLaw s)
    (hlists : ∀ n : Fin 16, s.frontEnd.measure[n] = [] ∧ s.frontEnd.reference[n] = [])
    (hresults : ResultsLaw s) : FrontEndLaw s.scanStart where
  slot sl hsl := by
    have happlied : StoreLaw p s.scanStart.store := by
      rw [scanStart_store_atBoundary]; exact storeLaw_atBoundary hstore
    have hbegun : sl = slotBegun s.scanStart.store.live 0 (s.scanStart.now + Config.conversionTime) := by
      rw [scanStart_frontEnd_slot] at hsl
      rw [← beginSlot_eq (k := 0) rfl]
      exact (Option.some.inj hsl).symm
    subst hbegun
    refine ⟨slotLaw_slotBegun happlied.inRange 0 _, happlied.inRange.planLength_range.1, readingsLaw_empty fun n => ?_⟩
    rw [scanStart_frontEnd_measure, scanStart_frontEnd_reference]
    exact hlists n
  snapshot := snapshotLaw_scanStart hstore htrackers
  results := by rw [scanStart_frontEnd_results]; exact hresults

/-- The results a completion writes have the ranges of R62 (R63). -/
theorem frontEndLaw_completeScan (choice : Option Nat) {s : State} {walked : Nat} (hread : ReadingsLaw walked s.frontEnd)
    (hwalked : walked ≤ 32) (hsnap : SnapshotLaw s) : FrontEndLaw (s.completeScan choice) := by
  obtain ⟨hfront, hkept⟩ := completeScan_frontEnd choice s
  rw [completed_frontEnd] at hfront
  refine .of_no_slot (by rw [hfront]) (fun n => by rw [hkept]; exact hsnap n) fun n r hr => ?_
  have hnew : s.newResult n = some r := by simpa [hfront] using hr
  rw [newResult_eq] at hnew
  split_ifs at hnew
  cases hnew
  exact resultLaw_channelResult (hread.measure n) (hsnap n) ((hread.counts n).trans hwalked)

/-- The end of a slot, by whether the plan goes on (R39, R56). -/
theorem frontEndLaw_endSlot (choice : Option Nat) {s : State} {sl : SlotInFlight} (hrange : InRange s.store.live)
    (hnumber : sl.number < s.store.live.device.planLength) (hread : ReadingsLaw sl.number s.frontEnd)
    (hvalue : ∀ v, (readingOf sl).outcome = .valid v → CodeRange v) (hsnap : SnapshotLaw s) (hresults : ResultsLaw s) :
    FrontEndLaw (s.endSlot choice sl) := by
  have hplan := hrange.planLength_range.2
  have hwalked := readingsLaw_withReading (kind := sl.kind) (n := sl.channel) hread hvalue
  by_cases hnext : sl.number + 1 < s.store.live.device.planLength
  · rw [endSlot_of_next (i := ⟨sl.number + 1, by omega⟩) rfl hnext]
    refine ⟨?_, hsnap, hresults⟩
    rintro _ ⟨⟩
    exact ⟨slotLaw_slotBegun hrange _ _, hnext, hwalked.setSlot _⟩
  · rw [endSlot_of_last (.inl (by omega))]
    exact frontEndLaw_completeScan choice (hwalked.setSlot none) (by omega) hsnap

/-- The end of a conversion, by whether its slot goes on (R54). -/
theorem frontEndLaw_endConversion (code : BitVec 24) (senseGood : Bool) (choice : Option Nat) {s : State}
    {sl : SlotInFlight} (hrange : InRange s.store.live) (h : FrontEndLaw s) (hsl : s.frontEnd.slot = some sl) :
    FrontEndLaw (s.endConversion code.toInt senseGood choice sl) := by
  obtain ⟨hslot, hnumber, hread⟩ := h.slot sl hsl
  rcases hadvance : sl.advance (conversionStatus (s.drivers.get sl.group) senseGood code.toInt) code.toInt with
    ⟨next, _ | _⟩
  · obtain ⟨hlaw, heq⟩ := slotLaw_advance hslot hadvance
    rw [endConversion_of_goes_on choice hadvance]
    refine ⟨?_, h.snapshot, h.results⟩
    rintro _ ⟨⟩
    rw [← heq] at hnumber hread
    exact ⟨hlaw, hnumber, hread.setSlot _⟩
  · obtain ⟨heq, hvalue⟩ := codeRange_of_last hslot hadvance
    rw [endConversion_of_last choice hadvance]
    rw [← heq] at hnumber hread
    exact frontEndLaw_endSlot choice (s := s.reach sl.endsAt) hrange hnumber hread hvalue h.snapshot h.results

theorem FrontEndEffect.frontEndLaw {s t : State} (e : FrontEndEffect s t) (hconfig : ConfigLaw s)
    (htrackers : TrackerLaw s) (hengine : EngineLaw s) (h : FrontEndLaw s) : FrontEndLaw t := by
  cases e with
  | kept k => exact h.of_kept k hengine.slot.1
  | aborted frontEnd snapshot =>
    refine .of_no_slot (by rw [frontEnd]; rfl) (fun n => ?_) fun n => ?_
    · rw [snapshot]; exact h.snapshot n
    · rw [frontEnd]; exact h.results n
  | reset frontEnd engine => exact frontEndLaw_reset frontEnd engine
  | started between u store trackers frontEnd effect =>
    subst effect
    refine frontEndLaw_scanStart (p := s.engine.runState = .standby) (by rw [store]; exact hconfig) ?_ ?_ ?_
    · unfold TrackerLaw; rw [store, trackers]; exact htrackers
    · rw [frontEnd]; exact hengine.lists between
    · unfold ResultsLaw; rw [frontEnd]; exact h.results
  | converted scan sl slot code senseGood choice effect =>
    subst effect
    exact frontEndLaw_endConversion code senseGood choice hconfig.inRange h slot

/-- Settles O56: every effect of a command on the front end keeps the law. -/
theorem frontEndLawKept : Obligations.FrontEndLawKept := by
  intro s t hconfig htrackers hengine h hstep
  unfold step at hstep
  split at hstep
  · cases hstep; exact h
  · have hpopped : EngineLaw s.popFront := { hengine with }
    have hfront : FrontEndLaw s.popFront := { h with }
    exact (exec_frontEndEffect hstep).frontEndLaw hconfig htrackers hpopped hfront

end Sys2Proof.Machine
end

section
/-! PROOFS. What every command can do to the tracker records: one inversion lemma, and from it the law that every record
agrees with its state and its configuration (R68 to R71, R76, R82, R87, R89, R93, R94). -/

namespace Sys2Proof.Machine

/-! ### What a command can do to the trackers -/

/-- The records and the live configuration are as before. -/
structure TrackersKept (s t : State) : Prop where
  trackers : t.trackers = s.trackers
  live : t.store.live = s.store.live

/-- All that a command can do to the tracker records and the configuration they follow: leave both alone, take the reset values,
make a boundary, apply the batch of a SEAL in STANDBY, take START or MANUAL triggers, or end the conversion in flight. -/
inductive TrackerEffect (s t : State) : Prop
  | kept (h : TrackersKept s t)
  | reset (trackers : t.trackers = State.reset.trackers) (store : t.store = .reset)
  | boundary (u : State) (before : u.store = s.store ∧ u.trackers = s.trackers)
      (after : t.store = u.boundary.store ∧ t.trackers = u.boundary.trackers)
  | applied (passes : s.sealFault = none) (u : State) (before : TrackersKept s u)
      (after : TrackersKept (u.applyBatch s.store.sealedBatch) t)
  | startTriggered (trackers : t.trackers = s.takeStartTriggers.trackers) (live : t.store.live = s.store.live)
  | retracked (effect : Response) (ns : List (Fin 16)) (trackers : ∀ n : Fin 16, t.trackers[n] = (s.retracked effect ns n).1)
      (live : t.store.live = s.store.live)
  | converted (sl : SlotInFlight) (slot : s.frontEnd.slot = some sl) (code : BitVec 24) (senseGood : Bool)
      (choice : Option Nat) (effect : t = s.endConversion code.toInt senseGood choice sl)

theorem TrackersKept.of_eq {s t : State} (ht : t.trackers = s.trackers) (hs : t.store = s.store) : TrackersKept s t :=
  ⟨ht, by rw [hs]⟩

theorem TrackersKept.refl (s : State) : TrackersKept s s := ⟨rfl, rfl⟩

theorem TrackersKept.trans {s t u : State} (h : TrackersKept s t) (k : TrackersKept t u) : TrackersKept s u :=
  ⟨k.trackers.trans h.trackers, k.live.trans h.live⟩

theorem TrackersKept.renewAlert {s u : State} (h : TrackersKept s u) : TrackersKept s u.renewAlert := by
  unfold State.renewAlert
  split_ifs
  · exact h
  · exact ⟨h.trackers, h.live⟩

theorem trackerEffect_whileRunning {f : State → State} {s : State} (h : TrackerEffect s (f s)) :
    TrackerEffect s (s.whileRunning f) := by
  unfold State.whileRunning
  split_ifs
  · exact h
  · exact .kept (.refl s)

theorem trackerEffect_whileRunning_of_kept {f : State → State} {s : State} (h : TrackersKept s (f s)) :
    TrackerEffect s (s.whileRunning f) :=
  trackerEffect_whileRunning (.kept h)

/-! ### Requests -/

/-- The trackers and the store of an effect, which are all it speaks of, are those before the frame was taken. -/
theorem trackerEffect_execute {k : RequestKind} {own : Frame → State → State} {s : State}
    (h : ∀ f, TrackerEffect s (own f s.takeHead)) : TrackerEffect s (s.execute k own) := by
  rcases execute_cases k own s with he | ⟨f, -, -, ⟨-, he⟩ | ⟨r, -, he⟩⟩ <;> rw [he]
  · exact .kept (.refl s)
  · exact h f
  · exact .kept ⟨rfl, rfl⟩

/-- A request whose own part leaves the trackers and the configuration alone. -/
theorem trackerEffect_execute_of_kept {k : RequestKind} {own : Frame → State → State} (h : ∀ f u, TrackersKept u (own f u))
    (s : State) : TrackerEffect s (s.execute k own) :=
  trackerEffect_execute fun f => .kept ⟨(h f s.takeHead).trackers, (h f s.takeHead).live⟩

theorem trackersKept_hello (f : Frame) (s : State) : TrackersKept s (ownHello f s) := by
  unfold ownHello
  split
  · exact ⟨rfl, rfl⟩
  · exact TrackersKept.renewAlert ⟨rfl, rfl⟩

theorem trackersKept_stage (f : Frame) (s : State) : TrackersKept s (ownStage f s) := by
  unfold ownStage
  split
  · exact ⟨rfl, rfl⟩
  · dsimp only
    split_ifs <;> exact ⟨rfl, rfl⟩

theorem trackersKept_readConfig (f : Frame) (s : State) : TrackersKept s (ownReadConfig f s) := by
  unfold ownReadConfig
  split <;> exact ⟨rfl, rfl⟩

theorem trackersKept_readTracker (f : Frame) (s : State) : TrackersKept s (ownReadTracker f s) := by
  unfold ownReadTracker
  split <;> exact ⟨rfl, rfl⟩

theorem trackersKept_readResults (f : Frame) (s : State) : TrackersKept s (ownReadResults f s) := by
  unfold ownReadResults
  split <;> exact ⟨rfl, rfl⟩

theorem trackersKept_subscribe (f : Frame) (s : State) : TrackersKept s (ownSubscribe f s) := by
  unfold ownSubscribe
  split <;> exact ⟨rfl, rfl⟩

theorem trackersKept_unsubscribe (f : Frame) (s : State) : TrackersKept s (ownUnsubscribe f s) := by
  unfold ownUnsubscribe
  split
  · split_ifs <;> exact ⟨rfl, rfl⟩
  · exact ⟨rfl, rfl⟩

theorem trackersKept_listSubscriptions (f : Frame) (s : State) : TrackersKept s (ownListSubscriptions f s) := by
  unfold ownListSubscriptions
  split
  · split_ifs <;> exact ⟨rfl, rfl⟩
  · exact ⟨rfl, rfl⟩

theorem trackersKept_grant (f : Frame) (s : State) : TrackersKept s (ownGrant f s) := by
  unfold ownGrant
  split
  · split_ifs <;> exact ⟨rfl, rfl⟩
  · exact ⟨rfl, rfl⟩

theorem trackersKept_ackAlerts (f : Frame) (s : State) : TrackersKept s (ownAckAlerts f s) := by
  unfold ownAckAlerts
  dsimp only
  split
  · exact ⟨rfl, rfl⟩
  · exact TrackersKept.renewAlert ⟨rfl, rfl⟩

theorem trackersKept_readAlerts (f : Frame) (s : State) : TrackersKept s (ownReadAlerts f s) := by
  unfold ownReadAlerts
  split
  · split_ifs <;> exact ⟨rfl, rfl⟩
  · exact ⟨rfl, rfl⟩

theorem trackersKept_unknown (s : State) : TrackersKept s s.executeUnknown := by
  rcases executeUnknown_cases s with h | ⟨f, -, -, h⟩ <;> rw [h] <;> exact ⟨rfl, rfl⟩

theorem trackersKept_duplicate (s : State) : TrackersKept s s.answerDuplicate := by
  rcases answerDuplicate_cases s with h | ⟨f, m, -, -, -, h⟩ <;> rw [h] <;> exact ⟨rfl, rfl⟩

theorem trackerEffect_seal (f : Frame) (s : State) : TrackerEffect s (ownSeal f s.takeHead) := by
  unfold ownSeal
  split
  · exact .kept ⟨rfl, rfl⟩
  · next hpass =>
    dsimp only
    split_ifs
    · exact .applied hpass { s.takeHead with store := { s.takeHead.store with staging := [] } } ⟨rfl, rfl⟩ ⟨rfl, rfl⟩
    · exact .kept ⟨rfl, rfl⟩

theorem trackerEffect_start (f : Frame) (s : State) : TrackerEffect s (ownStart f s.takeHead) := by
  unfold ownStart
  split
  · exact .kept ⟨rfl, rfl⟩
  · exact .startTriggered rfl rfl

theorem trackerEffect_retrack (f : Frame) (s : State) : TrackerEffect s (ownRetrack f s.takeHead) := by
  unfold ownRetrack
  split
  · exact .kept ⟨rfl, rfl⟩
  · next effect ns _ => exact .retracked effect ns (fun n => by simp [State.retracked]) rfl

/-- A request answered after an entry into STANDBY, which makes a boundary (R44). -/
theorem trackerEffect_standbyAnswered {s u : State} (hs : u.store = s.store) (ht : u.trackers = s.trackers)
    (k : RequestKind) (f : Frame) (contents : List Byte) : TrackerEffect s (u.enterStandby.accept k f contents) :=
  .boundary u.restEngine ⟨hs, ht⟩ ⟨rfl, rfl⟩

theorem trackerEffect_stop (f : Frame) (s : State) : TrackerEffect s (ownStop f s.takeHead) := by
  unfold ownStop
  dsimp only
  rcases stopRun_cases s.takeHead with h | h | h <;> rw [h]
  · exact .kept ⟨rfl, rfl⟩
  · exact .kept ⟨rfl, rfl⟩
  · exact trackerEffect_standbyAnswered (s := s) (u := s.takeHead) rfl rfl _ f _

theorem trackerEffect_abort (f : Frame) (s : State) : TrackerEffect s (ownAbort f s.takeHead) := by
  unfold ownAbort
  dsimp only
  rcases abortRun_cases s.takeHead with h | h | h <;> rw [h]
  · exact .kept ⟨rfl, rfl⟩
  · exact trackerEffect_standbyAnswered (s := s) (u := s.takeHead) rfl rfl _ f _
  · exact trackerEffect_standbyAnswered (s := s) (u := s.takeHead.abortScan) rfl rfl _ f _

/-! ### Events of the link -/

theorem trackersKept_timeoutFrame (s : State) : TrackersKept s s.timeoutFrame := .of_eq (latch_trackers ..) (latch_store ..)

theorem trackersKept_lengthFault (s : State) : TrackersKept s s.lengthFault := .of_eq (latch_trackers ..) (latch_store ..)

theorem trackersKept_arrival (f : RxFrame) (high low : Byte) (s : State) : TrackersKept s (s.arrival f high low) := by
  unfold State.arrival
  split_ifs
  · exact .of_eq (latch_trackers ..) (latch_store ..)
  · exact ⟨rfl, rfl⟩
  · exact .of_eq (latch_trackers ..) (latch_store ..)

theorem trackersKept_headerByte (f : RxFrame) (b : Byte) (s : State) : TrackersKept s (s.headerByte f b) := by
  unfold State.headerByte
  dsimp only
  split
  · split_ifs
    · exact trackersKept_lengthFault s
    · exact ⟨rfl, rfl⟩
  · exact ⟨rfl, rfl⟩
  · exact ⟨rfl, rfl⟩

theorem trackersKept_checkByte (f : RxFrame) (b : Byte) (s : State) : TrackersKept s (s.checkByte f b) := by
  unfold State.checkByte
  split
  · exact ⟨rfl, rfl⟩
  · exact trackersKept_arrival f _ b s

theorem trackersKept_receiveByte (b : Byte) (s : State) : TrackersKept s (s.receiveByte b) := by
  unfold State.receiveByte
  dsimp only
  cases s.link.rxState with
  | inactive | wakeListen | wakeQuiet | body => exact ⟨rfl, rfl⟩
  | hunt | sync => dsimp only; split_ifs <;> exact ⟨rfl, rfl⟩
  | header => exact trackersKept_headerByte _ b s
  | check => exact trackersKept_checkByte _ b s

theorem trackersKept_characterEnds (s : State) : TrackersKept s s.characterEnds := ⟨rfl, rfl⟩

theorem trackersKept_receiveCharacter (ch : Character) (s : State) : TrackersKept s (s.receiveCharacter ch) := by
  unfold State.receiveCharacter
  split_ifs
  · exact .refl s
  · cases ch with
    | byte b => exact (trackersKept_characterEnds s).trans (trackersKept_receiveByte b _)
    | framingError late =>
      dsimp only [State.framingError]
      split_ifs
      · exact (trackersKept_characterEnds s).trans (trackersKept_timeoutFrame _)
      · exact trackersKept_characterEnds s

theorem trackersKept_characterTimesOut (s : State) : TrackersKept s s.characterTimesOut := by
  unfold State.characterTimesOut
  split_ifs
  · exact trackersKept_timeoutFrame s
  · exact .refl s

theorem trackersKept_takeStartBit (s : State) : TrackersKept s s.takeStartBit := by
  unfold State.takeStartBit
  split_ifs
  · exact .refl s
  · split <;> exact ⟨rfl, rfl⟩

theorem trackerEffect_receiveBreak (rate : Level) (s : State) : TrackerEffect s (s.receiveBreak rate) := by
  unfold State.receiveBreak
  split_ifs
  · exact .kept (.refl s)
  all_goals dsimp only; split_ifs
  · exact .reset rfl rfl
  · exact .kept ⟨rfl, rfl⟩
  · exact .reset rfl rfl
  · exact .kept ⟨rfl, rfl⟩

theorem trackerEffect_endTransmission (rate : Level) (s : State) : TrackerEffect s (s.endTransmission rate) := by
  unfold State.endTransmission
  split
  · exact .kept (.refl s)
  · dsimp only
    split_ifs
    · exact .reset rfl rfl
    · exact .kept ⟨rfl, rfl⟩

/-! ### Resets -/

theorem trackerEffect_powerOn (resetN rate : Level) (s : State) : TrackerEffect s (s.powerOn resetN rate) := by
  cases resetN <;> exact .reset rfl rfl

theorem trackerEffect_resetNLow (s : State) : TrackerEffect s s.resetNLow := by
  unfold State.resetNLow
  split
  · exact .kept (.refl s)
  · exact .reset rfl rfl
  · exact .reset rfl rfl

theorem trackersKept_resetNHigh (rate : Level) (s : State) : TrackersKept s (s.resetNHigh rate) := by
  unfold State.resetNHigh
  split <;> exact ⟨rfl, rfl⟩

theorem trackersKept_endStartUp (s : State) : TrackersKept s s.endStartUp := by
  unfold State.endStartUp
  split <;> exact ⟨rfl, rfl⟩

/-! ### Events of the scan engine -/

/-- A scan start makes a boundary (R36). -/
theorem trackerEffect_scanStart {s u : State} (hs : u.store = s.store) (ht : u.trackers = s.trackers) :
    TrackerEffect s u.scanStart :=
  .boundary u.countScan ⟨hs, ht⟩ ⟨rfl, rfl⟩

theorem trackersKept_overrun (s : State) : TrackersKept s s.overrun := .of_eq (latch_trackers ..) (latch_store ..)

theorem trackersKept_missTrigger (s : State) : TrackersKept s s.missTrigger := .of_eq (latch_trackers ..) (latch_store ..)

theorem trackerEffect_armingSettled (s : State) : TrackerEffect s s.armingSettled := by
  unfold State.armingSettled
  split
  · dsimp only
    split
    · exact trackerEffect_scanStart rfl rfl
    · exact .kept ⟨rfl, rfl⟩
  · exact .kept (.refl s)

theorem trackerEffect_wakeSettled (s : State) : TrackerEffect s s.wakeSettled := by
  unfold State.wakeSettled
  split
  · exact trackerEffect_scanStart rfl rfl
  · exact .kept (.refl s)

theorem trackersKept_enterSettling (s : State) : TrackersKept s s.enterSettling := ⟨rfl, rfl⟩

/-- A timer expiry, after its reload. -/
theorem trackerEffect_onExpiry {s u : State} (hs : u.store = s.store) (ht : u.trackers = s.trackers) :
    TrackerEffect s u.onExpiry := by
  have hu : TrackersKept s u := .of_eq ht hs
  unfold State.onExpiry
  cases u.engine.runState with
  | waiting => exact trackerEffect_scanStart hs ht
  | doze => exact .kept (hu.trans (trackersKept_enterSettling u))
  | settling | scanning => exact .kept (hu.trans (trackersKept_overrun u))
  | draining | standby | arming => exact .kept hu

theorem trackerEffect_timerExpires (s : State) : TrackerEffect s s.timerExpires := by
  unfold State.timerExpires
  split
  · exact .kept (.refl s)
  · exact trackerEffect_onExpiry rfl rfl

/-- A trigger, after the qualifier's return to IDLE. -/
theorem trackerEffect_onTrigger {s u : State} (hs : u.store = s.store) (ht : u.trackers = s.trackers) :
    TrackerEffect s u.onTrigger := by
  have hu : TrackersKept s u := .of_eq ht hs
  unfold State.onTrigger
  cases u.engine.mode with
  | free => exact .kept hu
  | triggered =>
    cases u.engine.runState with
    | waiting => exact trackerEffect_scanStart hs ht
    | doze => exact .kept (hu.trans (trackersKept_enterSettling u))
    | arming | settling | scanning | draining => exact .kept (hu.trans (trackersKept_missTrigger u))
    | standby => exact .kept hu

theorem trackerEffect_takeTrigger (s : State) : TrackerEffect s s.takeTrigger := by
  unfold State.takeTrigger
  split
  · exact .kept (.refl s)
  · exact trackerEffect_onTrigger rfl rfl

theorem trackersKept_overcurrent (g : Group) (s : State) : TrackersKept s (s.overcurrent g) := by
  unfold State.overcurrent
  split_ifs
  · exact .of_eq (latch_trackers ..) (latch_store ..)
  · exact .refl s

theorem trackerEffect_conversionEnds (code : BitVec 24) (senseGood : Bool) (choice : Option Nat) (s : State) :
    TrackerEffect s (s.conversionEnds code senseGood choice) := by
  unfold State.conversionEnds
  split
  · exact .kept (.refl s)
  · next sl hsl =>
    split_ifs
    · exact .converted sl hsl code senseGood choice rfl
    · exact .kept (.refl s)

/-! ### Every command -/

/-- What a command can do to the trackers, command by command. -/
theorem exec_trackerEffect {c : Instr} {s t : State} (h : exec c s = .next t) : TrackerEffect s t := by
  cases c <;> obtain rfl := Host.Outcome.next.inj h
  case hello => exact trackerEffect_execute_of_kept trackersKept_hello s
  case getState => exact trackerEffect_execute_of_kept (own := ownGetState) (fun f u => ⟨rfl, rfl⟩) s
  case reset => exact trackerEffect_execute_of_kept (own := ownReset) (fun f u => ⟨rfl, rfl⟩) s
  case stage => exact trackerEffect_execute_of_kept trackersKept_stage s
  case discard => exact trackerEffect_execute_of_kept (own := ownDiscard) (fun f u => ⟨rfl, rfl⟩) s
  case readConfig => exact trackerEffect_execute_of_kept trackersKept_readConfig s
  case start => exact trackerEffect_execute fun f => trackerEffect_start f s
  case stop => exact trackerEffect_execute fun f => trackerEffect_stop f s
  case abort => exact trackerEffect_execute fun f => trackerEffect_abort f s
  case retrack => exact trackerEffect_execute fun f => trackerEffect_retrack f s
  case readTracker => exact trackerEffect_execute_of_kept trackersKept_readTracker s
  case readResults => exact trackerEffect_execute_of_kept trackersKept_readResults s
  case subscribe => exact trackerEffect_execute_of_kept trackersKept_subscribe s
  case unsubscribe => exact trackerEffect_execute_of_kept trackersKept_unsubscribe s
  case listSubscriptions => exact trackerEffect_execute_of_kept trackersKept_listSubscriptions s
  case grant => exact trackerEffect_execute_of_kept trackersKept_grant s
  case ackAlerts => exact trackerEffect_execute_of_kept trackersKept_ackAlerts s
  case readAlerts => exact trackerEffect_execute_of_kept trackersKept_readAlerts s
  case readCounters => exact trackerEffect_execute_of_kept (own := ownReadCounters) (fun f u => ⟨rfl, rfl⟩) s
  case unknownKind => exact .kept (trackersKept_unknown s)
  case duplicate => exact .kept (trackersKept_duplicate s)
  case frameArrival b =>
    refine trackerEffect_whileRunning_of_kept ?_
    split_ifs
    · exact (trackersKept_characterEnds s).trans (trackersKept_receiveByte b _)
    · exact .refl s
  case lengthError b =>
    refine trackerEffect_whileRunning_of_kept ?_
    split_ifs
    · exact (trackersKept_characterEnds s).trans (trackersKept_lengthFault _)
    · exact .refl s
  case characterTimeout => exact trackerEffect_whileRunning_of_kept (trackersKept_characterTimesOut s)
  case breakDetected rate => exact trackerEffect_whileRunning (trackerEffect_receiveBreak rate s)
  case breakEnd => exact trackerEffect_whileRunning_of_kept ⟨rfl, rfl⟩
  case wake => exact trackerEffect_whileRunning_of_kept (trackersKept_takeStartBit s)
  case wakeQuietEnd =>
    refine trackerEffect_whileRunning_of_kept ?_
    split_ifs <;> exact ⟨rfl, rfl⟩
  case arbiterChoice => exact .kept ⟨arbiter_trackers s, by rw [arbiter_store]⟩
  case transmitEnd rate => exact trackerEffect_whileRunning (trackerEffect_endTransmission rate s)
  case powerOn resetN rate => exact trackerEffect_powerOn resetN rate s
  case resetNLow => exact trackerEffect_resetNLow s
  case resetNHigh rate => exact .kept (trackersKept_resetNHigh rate s)
  case startUpEnd => exact .kept (trackersKept_endStartUp s)
  case armingSettleEnd => exact trackerEffect_whileRunning (trackerEffect_armingSettled s)
  case timerExpiry => exact trackerEffect_whileRunning (trackerEffect_timerExpires s)
  case trigEdge direction => exact trackerEffect_whileRunning_of_kept ⟨rfl, rfl⟩
  case trigger => exact trackerEffect_whileRunning (trackerEffect_takeTrigger s)
  case wakeSettleEnd => exact trackerEffect_whileRunning (trackerEffect_wakeSettled s)
  case syncPulseEnd => exact trackerEffect_whileRunning_of_kept ⟨rfl, rfl⟩
  case conversionEnd code senseGood choice =>
    exact trackerEffect_whileRunning (trackerEffect_conversionEnds code senseGood choice s)
  case dozeEntry =>
    refine trackerEffect_whileRunning_of_kept ?_
    split_ifs <;> exact ⟨rfl, rfl⟩
  case overcurrent g => exact trackerEffect_whileRunning_of_kept (trackersKept_overcurrent g s)
  case characterReceived ch => exact trackerEffect_whileRunning_of_kept (trackersKept_receiveCharacter ch s)
  -- SEAL is left, whose constructor's name is a word of Lean and cannot stand after `case`.
  · exact trackerEffect_execute fun f => trackerEffect_seal f s

/-! ### The record law over a command -/

theorem TrackersKept.trackerLaw {s t : State} (k : TrackersKept s t) (h : TrackerLaw s) : TrackerLaw t := by
  unfold TrackerLaw
  rw [k.trackers, k.live]
  exact h

/-- Right after reset every channel is FIXED with offset 0, and every record is OFF there (R4, R68). -/
theorem recordLaw_defaults (n : Fin 16) : RecordLaw (ChannelConfig.defaults n) Tracker.reset :=
  ⟨⟨rfl, rfl, rfl, rfl⟩, Nat.zero_le _, Nat.zero_le _, nofun, nofun⟩

theorem trackerLaw_reset {s : State} (ht : s.trackers = State.reset.trackers) (hs : s.store = .reset) : TrackerLaw s := by
  intro n
  simpa [ht, hs, State.reset, ConfigStore.reset, Configuration.defaults] using recordLaw_defaults n

/-- An application of edits that pass the checks keeps the tracker law (R20, R89). -/
theorem trackerLaw_applyBatch {s : State} {b : Batch} (hrange : InRange (s.store.live.applyEdits b.edits))
    (hpasses : PassesChecks (s.store.live.applyEdits b.edits)) (h : TrackerLaw s) : TrackerLaw (s.applyBatch b) := by
  intro n
  rw [applyBatch_tracker, applyBatch_store]
  exact recordLaw_applied (channelOk hrange hpasses n) (h n)

/-- START triggers keep the tracker law: they are taken on TRACK channels alone (R87). -/
theorem trackerLaw_takeStartTriggers {s : State} (h : TrackerLaw s) : TrackerLaw s.takeStartTriggers := by
  intro n
  have hrecord : s.takeStartTriggers.trackers[n] =
      if startTriggers s.store.live.channels[n] then s.trackers[n].hardTrigger .start s.engine.scanCounter
      else s.trackers[n] := by
    simp [State.takeStartTriggers]
  rw [hrecord, State.takeStartTriggers_store]
  split_ifs with htrigger
  · exact recordLaw_hardTrigger (h n) ((startTriggers_iff _).1 htrigger).2.1
  · exact h n

theorem recordLaw_retracked {s : State} {n : Fin 16} (effect : Response) (ns : List (Fin 16))
    (hc : ChannelOk s.store.live.channels[n]) (h : RecordLaw s.store.live.channels[n] s.trackers[n]) :
    RecordLaw s.store.live.channels[n] (s.retracked effect ns n).1 := by
  unfold State.retracked
  split_ifs
  · exact recordLaw_manualTrigger hc h
  · exact h

/-- The trackers' work at a completion, where the readings lie in the codes' range (R76, R93). -/
theorem recordLaw_trackerCompleted {s : State} {n : Fin 16} (hc : ChannelOk s.store.live.channels[n])
    (hvalues : ∀ v ∈ validValues s.frontEnd.reference[n], CodeRange v)
    (h : RecordLaw s.store.live.channels[n] s.trackers[n]) :
    RecordLaw s.store.live.channels[n] (s.trackerCompleted n).record := by
  rw [trackerCompleted_record]
  split_ifs
  · exact recordLaw_complete hc h hvalues
  · exact h

/-- Entry into STANDBY keeps the tracker law over its boundary (R44). -/
theorem trackerLaw_enterStandby {p : Prop} {s : State} (hstore : StoreLaw p s.store) (h : TrackerLaw s) :
    TrackerLaw s.enterStandby :=
  trackerLaw_boundary (s := s.restEngine) hstore h

/-- A completion keeps the tracker law, whether the run goes on or ends with a boundary (R41, R76). -/
theorem trackerLaw_completeScan {p : Prop} {s : State} (choice : Option Nat) (hstore : StoreLaw p s.store)
    (hvalues : ∀ n : Fin 16, ∀ v ∈ validValues s.frontEnd.reference[n], CodeRange v) (h : TrackerLaw s) :
    TrackerLaw (s.completeScan choice) := by
  have hcompleted : TrackerLaw (s.completed choice) := fun n => by
    rw [completed_store, completed_trackers]
    simpa using recordLaw_trackerCompleted (channelOk hstore.inRange hstore.passes n) (hvalues n) (h n)
  rw [completeScan_eq]
  split_ifs
  · exact TrackersKept.trackerLaw (.of_eq (State.setRunState_trackers ..) (State.setRunState_store ..)) hcompleted
  · exact trackerLaw_enterStandby (p := p) (by rw [completed_store]; exact hstore) hcompleted

/-- The end of a slot keeps the tracker law, by whether the plan goes on (R39, R40). -/
theorem trackerLaw_endSlot {p : Prop} {s : State} {sl : SlotInFlight} (choice : Option Nat) (hstore : StoreLaw p s.store)
    (hread : ReadingsLaw sl.number s.frontEnd) (hvalue : ∀ v, (readingOf sl).outcome = .valid v → CodeRange v)
    (h : TrackerLaw s) : TrackerLaw (s.endSlot choice sl) := by
  have hplan := hstore.inRange.planLength_range.2
  by_cases hnext : sl.number + 1 < s.store.live.device.planLength
  · rw [endSlot_of_next (i := ⟨sl.number + 1, by omega⟩) rfl hnext]
    exact h
  · rw [endSlot_of_last (.inl (by omega))]
    exact trackerLaw_completeScan (p := p) choice hstore (readingsLaw_withReading hread hvalue).reference h

/-- The end of a conversion keeps the tracker law, by whether its slot goes on (R54). -/
theorem trackerLaw_endConversion {p : Prop} {s : State} {sl : SlotInFlight} (code : BitVec 24) (senseGood : Bool)
    (choice : Option Nat) (hstore : StoreLaw p s.store) (hfront : FrontEndLaw s) (hsl : s.frontEnd.slot = some sl)
    (h : TrackerLaw s) : TrackerLaw (s.endConversion code.toInt senseGood choice sl) := by
  obtain ⟨hslot, -, hread⟩ := hfront.slot sl hsl
  rcases hadvance : sl.advance (conversionStatus (s.drivers.get sl.group) senseGood code.toInt) code.toInt with
    ⟨next, _ | _⟩
  · rw [endConversion_of_goes_on choice hadvance]
    exact h
  · obtain ⟨hnumber, hvalue⟩ := codeRange_of_last hslot hadvance
    rw [endConversion_of_last choice hadvance]
    exact trackerLaw_endSlot (s := s.reach sl.endsAt) (p := p) choice hstore (by rw [hnumber]; exact hread) hvalue h

theorem TrackerEffect.trackerLaw {s t : State} (e : TrackerEffect s t) (hconfig : ConfigLaw s) (hfront : FrontEndLaw s)
    (h : TrackerLaw s) : TrackerLaw t := by
  cases e with
  | kept k => exact k.trackerLaw h
  | reset trackers store => exact trackerLaw_reset trackers store
  | boundary u before after =>
    obtain ⟨hstore, htrackers⟩ := before
    have hu : TrackerLaw u := TrackersKept.trackerLaw ⟨htrackers, by rw [hstore]⟩ h
    have hbound : TrackerLaw u.boundary :=
      trackerLaw_boundary (p := s.engine.runState = .standby) (by rw [hstore]; exact hconfig) hu
    exact TrackersKept.trackerLaw ⟨after.2, by rw [after.1]⟩ hbound
  | applied passes u before after =>
    have hsealed := storeLaw_sealApplied (p := False) hconfig passes
    have hedits : u.store.live.applyEdits s.store.sealedBatch.edits = s.store.prospective := by rw [before.live]; rfl
    refine after.trackerLaw (trackerLaw_applyBatch ?_ ?_ (before.trackerLaw h)) <;> rw [hedits]
    · exact hsealed.inRange
    · exact hsealed.passes
  | startTriggered trackers live => exact TrackersKept.trackerLaw ⟨trackers, live⟩ (trackerLaw_takeStartTriggers h)
  | retracked effect ns trackers live =>
    intro n
    rw [trackers, live]
    exact recordLaw_retracked effect ns (channelOk hconfig.inRange hconfig.passes n) (h n)
  | converted sl slot code senseGood choice effect =>
    subst effect
    exact trackerLaw_endConversion code senseGood choice hconfig hfront slot h

/-- Settles O57: every effect of a command on the trackers keeps the law. -/
theorem trackerLawKept : Obligations.TrackerLawKept := by
  intro s t hconfig hfront h hstep
  unfold step at hstep
  split at hstep
  · cases hstep; exact h
  · have hpopped : FrontEndLaw s.popFront := { hfront with }
    exact (exec_trackerEffect hstep).trackerLaw hconfig hpopped h

end Sys2Proof.Machine
end

section
/-! PROOFS. The arithmetic of one tracker record: the estimate (R72), what a completion makes of a record (R70 to R81, R84, R85) and
what an application makes of one (R88 to R92). -/

namespace Sys2Proof.Machine

/-! ### The estimate (R72) -/

/-- The estimate by any ascending arrangement of the window: a quarter of the values, rounded down, is left out at each end. -/
theorem estimate_of_sorted {window sorted : List Int} (hperm : sorted.Perm window) (hsorted : sorted.Pairwise (· ≤ ·)) :
    estimate window =
      ((sorted.drop (window.length / 4)).take (window.length - 2 * (window.length / 4))).sum.tdiv
        (window.length - 2 * (window.length / 4) : Nat) := by
  have hsort : window.insertionSort (· ≤ ·) = sorted :=
    ((window.perm_insertionSort (· ≤ ·)).trans hperm.symm).eq_of_pairwise' (window.pairwise_insertionSort (· ≤ ·)) hsorted
  simp only [estimate, hsort]

/-- An estimate lies between any bounds of the window's values. -/
theorem estimate_range {window : List Int} {low high : Int} (hw : 1 ≤ window.length)
    (h : ∀ v ∈ window, low ≤ v ∧ v ≤ high) : low ≤ estimate window ∧ estimate window ≤ high := by
  let middle := ((window.insertionSort (· ≤ ·)).drop (window.length / 4)).take (window.length - 2 * (window.length / 4))
  have hlength : middle.length = window.length - 2 * (window.length / 4) := by
    simp only [middle, List.length_take, List.length_drop, List.length_insertionSort]
    omega
  have hmiddle : ∀ v ∈ middle, low ≤ v ∧ v ≤ high := fun v hv =>
    h v ((List.mem_insertionSort _).1 (List.mem_of_mem_drop (List.mem_of_mem_take hv)))
  obtain ⟨hlow, hhigh⟩ := sum_range hmiddle
  rw [hlength] at hlow hhigh
  exact tdiv_range (by omega) hlow hhigh

/-- Settles O43: the number left out at each end is 0 for up to three values, 1 for four to seven and 2 for eight. -/
theorem estimateIsTrimmedMean : Obligations.EstimateIsTrimmedMean := by
  intro window sorted hperm hsorted hpos hle
  refine ⟨?_, fun low high h => estimate_range hpos h⟩
  have hlength := hperm.length_eq
  rw [estimate_of_sorted hperm hsorted]
  split_ifs with hthree height
  · rw [show window.length / 4 = 0 by omega, List.drop_zero, Nat.mul_zero, Nat.sub_zero, ← hlength, List.take_length]
  · simp only [height]
    rfl
  · rw [show window.length / 4 = 1 by omega]

/-! ### Updates, in the terms of the claims -/

theorem clampTo_changes_iff (m : Nat) (v : Int) : decide (clampTo m v ≠ v) = true ↔ (m : Int) < |v| := by
  rw [decide_eq_true_eq, clampTo_ne_iff, Int.abs_eq_natAbs]
  omega

theorem direct_clamped_iff (cfg : ChannelConfig) (est : Int) (t : Tracker) :
    (t.direct cfg est).clamped = true ↔ (cfg.maxCorrection : Int) < |est| :=
  clampTo_changes_iff cfg.maxCorrection est

theorem filtered_record (cfg : ChannelConfig) (est : Int) (t : Tracker) :
    (t.filtered cfg est).record =
      { t with appliedOffset := boundedBy cfg.maxCorrection (filteredValue cfg.weight est t.appliedOffset) } := by
  simp only [Tracker.filtered, clampTo_eq_boundedBy]

theorem filtered_clamped_iff (cfg : ChannelConfig) (est : Int) (t : Tracker) :
    (t.filtered cfg est).clamped = true ↔
      (cfg.maxCorrection : Int) < |filteredValue cfg.weight est t.appliedOffset| :=
  clampTo_changes_iff cfg.maxCorrection _

/-! ### A completion (R76 to R81, R84, R85) -/

/-- A record that took the values of a scan into its window, with the estimate of that window (R71, R72, R76). -/
def Tracker.entered (values : List Int) (t : Tracker) : Tracker :=
  { t with window := pushWindow t.window values, lastEstimate := some (estimate (pushWindow t.window values)) }

theorem thresholdHard_entered_record (cfg : ChannelConfig) (kind : TriggerKind) (scan : Word32) (values : List Int)
    (t : Tracker) :
    ((t.entered values).thresholdHard cfg kind scan values).record = hardAtThreshold cfg kind scan values t := by
  rw [Tracker.thresholdHard, direct_record]
  rfl

theorem thresholdHard_clamped_iff (cfg : ChannelConfig) (kind : TriggerKind) (scan : Word32) (values : List Int)
    (t : Tracker) :
    (t.thresholdHard cfg kind scan values).clamped = true ↔
      (cfg.maxCorrection : Int) < |estimate (newest values)| :=
  direct_clamped_iff ..

theorem thresholdSoft_record (cfg : ChannelConfig) (scan : Word32) (est : Int) (t : Tracker) :
    (t.thresholdSoft cfg scan est).record =
      { t with
        appliedOffset := boundedBy cfg.maxCorrection (filteredValue cfg.weight est t.appliedOffset)
        remaining := (if cfg.followScans = 0 then 1 else cfg.followScans) - 1
        state := if cfg.followScans ≤ 1 then .holding else .following
        lastTrigger := some ⟨.softThreshold, scan⟩
        triggerCount := t.triggerCount + 1 } := by
  have hlast : softFollow cfg.followScans - 1 = 0 ↔ cfg.followScans ≤ 1 := by
    unfold softFollow
    split_ifs <;> omega
  simp only [Tracker.thresholdSoft, filtered_record, Tracker.countDown, hlast]
  rfl

theorem thresholdSoft_clamped_iff (cfg : ChannelConfig) (scan : Word32) (est : Int) (t : Tracker) :
    (t.thresholdSoft cfg scan est).clamped = true ↔
      (cfg.maxCorrection : Int) < |filteredValue cfg.weight est t.appliedOffset| :=
  filtered_clamped_iff cfg est _

section
variable {cfg : ChannelConfig} {scan : Word32} {values : List Int} {t : Tracker}

theorem complete_nil (cfg : ChannelConfig) (scan : Word32) (t : Tracker) : t.complete cfg scan [] = ⟨t, false⟩ := rfl

theorem complete_of_off (h : t.state = .off) : t.complete cfg scan values = ⟨t, false⟩ := by
  simp only [Tracker.complete, h, ite_self]

theorem complete_of_hardPending (hn : values ≠ []) (h : t.state = .hardPending) :
    t.complete cfg scan values = (t.entered values).direct cfg (estimate (pushWindow t.window values)) := by
  simp only [Tracker.complete, if_neg hn, h]
  rfl

/-- A hard threshold breach, in each of the three states that test for it (R77). -/
theorem complete_of_hard (hn : values ≠ []) (h : t.state = .holding ∨ t.state = .following ∨ t.state = .continuous)
    (hb : hardBreached cfg (estimate (pushWindow t.window values) - t.appliedOffset).natAbs = true) :
    t.complete cfg scan values = (t.entered values).thresholdHard cfg .hardThreshold scan values := by
  rcases h with h | h | h <;> simp only [Tracker.complete, if_neg hn, h, hb, if_true] <;> rfl

variable (hb : hardBreached cfg (estimate (pushWindow t.window values) - t.appliedOffset).natAbs = false)
include hb

theorem complete_of_holding_quiet (hn : values ≠ []) (h : t.state = .holding)
    (hs : softBreached cfg (estimate (pushWindow t.window values) - t.appliedOffset).natAbs = false) :
    t.complete cfg scan values = ⟨t.entered values, false⟩ := by
  simp only [Tracker.complete, if_neg hn, h, hb, hs, Bool.false_eq_true, if_false]
  rw [← h]
  rfl

/-- A soft threshold breach takes the response configured (R78, R85). -/
theorem complete_of_holding_soft (hn : values ≠ []) (h : t.state = .holding)
    (hs : softBreached cfg (estimate (pushWindow t.window values) - t.appliedOffset).natAbs = true) :
    t.complete cfg scan values =
      match cfg.thresholdResponse with
      | .hard => (t.entered values).thresholdHard cfg .softThreshold scan values
      | .soft => (t.entered values).thresholdSoft cfg scan (estimate (pushWindow t.window values)) := by
  simp only [Tracker.complete, if_neg hn, h, hb, hs, Bool.false_eq_true, if_false, if_true]
  cases cfg.thresholdResponse <;> simp only [Tracker.entered] <;> rw [← h]

theorem complete_of_following (hn : values ≠ []) (h : t.state = .following) :
    t.complete cfg scan values =
      ⟨((t.entered values).filtered cfg (estimate (pushWindow t.window values))).record.countDown,
        ((t.entered values).filtered cfg (estimate (pushWindow t.window values))).clamped⟩ := by
  simp only [Tracker.complete, if_neg hn, h, hb, Bool.false_eq_true, if_false]
  rfl

theorem complete_of_continuous (hn : values ≠ []) (h : t.state = .continuous) :
    t.complete cfg scan values = (t.entered values).filtered cfg (estimate (pushWindow t.window values)) := by
  simp only [Tracker.complete, if_neg hn, h, hb, Bool.false_eq_true, if_false]
  rw [← h]
  rfl

end

/-- Settles O42: a completion by the record's state, the thresholds breached and the response configured. -/
theorem trackerAtCompletion : Obligations.TrackerAtCompletion := by
  refine ⟨complete_nil, ?_⟩
  rintro cfg scan values _ _ _ _ t _ _ hn rfl rfl rfl rfl rfl rfl hard soft hhard hsoft
  rw [← hardBreached_iff] at hhard
  rw [← softBreached_iff] at hsoft
  have hquiet (h : ¬ hard) := Bool.eq_false_of_not_eq_true (h ∘ hhard.2)
  refine ⟨complete_of_off, fun hs => ?_, fun hs hh => ?_, fun hs hh hsoft' => ?_, fun hs hh hsoft' hr => ?_,
    fun hs hh hsoft' hr => ?_, fun hs hh hrem => ?_, fun hs hh => ?_⟩
  · rw [complete_of_hardPending hn hs]
    exact ⟨direct_record .., direct_clamped_iff ..⟩
  · rw [complete_of_hard hn hs (hhard.1 hh)]
    exact ⟨thresholdHard_entered_record .., thresholdHard_clamped_iff ..⟩
  · exact complete_of_holding_quiet (hquiet hh) hn hs (Bool.eq_false_of_not_eq_true (hsoft' ∘ hsoft.2))
  · rw [complete_of_holding_soft (hquiet hh) hn hs (hsoft.1 hsoft'), hr]
    exact ⟨thresholdHard_entered_record .., thresholdHard_clamped_iff ..⟩
  · rw [complete_of_holding_soft (hquiet hh) hn hs (hsoft.1 hsoft'), hr]
    exact ⟨thresholdSoft_record .., thresholdSoft_clamped_iff ..⟩
  · rw [complete_of_following (hquiet hh) hn hs]
    refine ⟨?_, filtered_clamped_iff ..⟩
    have hlast : t.remaining - 1 = 0 ↔ t.remaining = 1 := by omega
    simp only [filtered_record, Tracker.countDown, Tracker.entered, hlast]
    rfl
  · rw [complete_of_continuous (hquiet hh) hn hs]
    exact ⟨filtered_record .., filtered_clamped_iff ..⟩

/-! ### An application (R88 to R92) -/

section
variable {old new : ChannelConfig} {level : Bool} {scan : Word32} {t : Tracker}

theorem modeStep_of_track (h : new.zeroMode = .track) : t.modeStep old new = t := by
  unfold Tracker.modeStep
  rw [h]
  cases old.zeroMode <;> rfl

theorem clampStep_of_track (h : new.zeroMode = .track) :
    t.clampStep new =
      ⟨{ t with appliedOffset := boundedBy new.maxCorrection t.appliedOffset },
        decide (clampTo new.maxCorrection t.appliedOffset ≠ t.appliedOffset)⟩ := by
  simp only [Tracker.clampStep, h, clampTo_eq_boundedBy]

theorem clampStep_of_fixed (h : new.zeroMode = .fixed) : t.clampStep new = ⟨t, false⟩ := by
  simp only [Tracker.clampStep, h]

theorem followStep_of_off (h : t.state = .off) : t.followStep old new = t := by
  simp only [Tracker.followStep, h, ite_self]

/-- The clamp an application reports is that of its second step (R89, R91). -/
theorem applied_clamped : (t.applied old new level scan).clamped = ((t.modeStep old new).clampStep new).clamped := by
  unfold Tracker.applied
  cases appliedTrigger old new level <;> rfl

/-- A trigger taken at an application leaves nothing of a change of follow_scans (R83, R89). -/
theorem applied_of_trigger {kind : TriggerKind} (h : appliedTrigger old new level = some kind) :
    (t.applied old new level scan).record = hardTriggered kind scan ((t.modeStep old new).clampStep new).record := by
  simp only [Tracker.applied, h]
  exact followStep_hardTrigger ..

theorem applied_of_no_trigger (h : appliedTrigger old new level = none) :
    (t.applied old new level scan).record = ((t.modeStep old new).clampStep new).record.followStep old new := by
  simp only [Tracker.applied, h]

theorem appliedTrigger_of_fixed (h : new.zeroMode = .fixed) : appliedTrigger old new level = none := by
  simp [appliedTrigger, h]

theorem appliedTrigger_of_mode (ho : old.zeroMode = .fixed) (hn : new.zeroMode = .track) :
    appliedTrigger old new level = some .mode := by
  simp [appliedTrigger, ho, hn]

/-- The CHANGE trigger of a channel that stays TRACK (R88). -/
theorem appliedTrigger_of_stays_track (ho : old.zeroMode = .track) (hn : new.zeroMode = .track) :
    appliedTrigger old new level =
      if new.enabled = true ∧ new.changeTrigger = true ∧ (old.gain ≠ new.gain ∨ old.oversample ≠ new.oversample ∨
          old.exciteGroup ≠ new.exciteGroup ∨ old.enabled = false ∨ level = true) then some .change
      else none := by
  simp [appliedTrigger, ho, hn]

/-- The record of a FIXED channel is OFF at the fixed offset (R69). -/
theorem RecordLaw.off_of_fixed (h : RecordLaw old t) (hz : old.zeroMode = .fixed) :
    t.state = .off ∧ t.appliedOffset = old.fixedOffset := by
  have hstate := h.state
  unfold TrackerStateLaw at hstate
  cases hs : t.state with
  | off => rw [hs] at hstate; exact ⟨rfl, hstate.2.2.2⟩
  | hardPending | following | holding | continuous =>
    rw [hs] at hstate
    exact absurd (hz.symm.trans hstate.1) nofun

/-- On a TRACK channel the table of R69 does not speak of the offset. -/
theorem TrackerStateLaw.setOffset (h : TrackerStateLaw old t) (hz : old.zeroMode = .track) (v : Int) :
    TrackerStateLaw old { t with appliedOffset := v } := by
  unfold TrackerStateLaw at h ⊢
  cases hs : t.state with
  | off => rw [hs] at h; exact absurd (hz.symm.trans h.1) nofun
  | hardPending | following | holding | continuous => rw [hs] at h; exact h

/-- State and remaining of a record for a new follow_scans (R92). -/
theorem followStep_eq (h : TrackerStateLaw old t) :
    t.followStep old new =
      { t with
        state :=
          match t.state with
          | .holding => if new.followScans = 255 then .continuous else .holding
          | .following =>
            if new.followScans = 255 then .continuous else if new.followScans = 0 ∧ old.followScans ≠ 0 then .holding
            else .following
          | .continuous => if new.followScans = 255 then .continuous else .holding
          | .hardPending => .hardPending
          | .off => .off
        remaining :=
          if t.state ≠ .following then t.remaining
          else if new.followScans = 255 then 0
          else if old.followScans = new.followScans then t.remaining
          else min t.remaining new.followScans } := by
  have hcontinuous : Config.followContinuous = 255 := rfl
  obtain ⟨state, offset, window, remaining, estimate, trigger, count⟩ := t
  unfold TrackerStateLaw at h
  simp only [Tracker.followStep, hcontinuous]
  cases state with
  | off | hardPending => simp
  | holding =>
    obtain ⟨-, -, hrem, hfollow⟩ := h
    simp only at hrem
    split_ifs <;> simp_all
  | following =>
    obtain ⟨-, -, hpos, -, hfollow⟩ := h
    simp only at hpos
    split_ifs <;> simp_all
    omega
  | continuous =>
    obtain ⟨-, -, hrem, hfollow⟩ := h
    simp only at hrem
    split_ifs <;> simp_all

end

/-- Settles O41: an application by the modes before and after it and by the trigger it takes. -/
theorem trackerFollowsConfiguration : Obligations.TrackerFollowsConfiguration := by
  intro old new level scan t h
  refine ⟨?_, fun ho hn => ?_, fun ho hn => ?_, fun ho hn => ?_, fun ho hn => ⟨fun hchange => ?_, fun hchange => ?_⟩⟩
  · rw [applied_clamped]
    cases hn : new.zeroMode with
    | fixed => simp [clampStep_of_fixed hn]
    | track => simp [clampStep_of_track hn, modeStep_of_track hn, clampTo_ne_iff]
  · rw [applied_of_no_trigger (appliedTrigger_of_fixed hn), clampStep_of_fixed hn]
    simp only [Tracker.modeStep, ho, hn]
    exact followStep_of_off rfl
  · obtain ⟨hoff, hoffset⟩ := h.off_of_fixed ho
    have hmode : t.modeStep old new = { t with appliedOffset := new.fixedOffset } := by
      simp only [Tracker.modeStep, ho, hn]
      split_ifs with hsame
      · rw [← hsame, ← hoffset]
      · rfl
    rw [applied_of_no_trigger (appliedTrigger_of_fixed hn), clampStep_of_fixed hn, hmode]
    exact followStep_of_off hoff
  · rw [applied_of_trigger (appliedTrigger_of_mode ho hn), modeStep_of_track hn, clampStep_of_track hn]
  · rw [applied_of_trigger ((appliedTrigger_of_stays_track ho hn).trans (if_pos hchange)), modeStep_of_track hn,
      clampStep_of_track hn]
  · rw [applied_of_no_trigger ((appliedTrigger_of_stays_track ho hn).trans (if_neg hchange)), modeStep_of_track hn,
      clampStep_of_track hn]
    exact followStep_eq (h.state.setOffset ho _)

end Sys2Proof.Machine
end

section
/-! PROOFS. RETRACK: its operands and the MANUAL triggers it takes (R83, R86, R94, R185). -/

namespace Sys2Proof.Machine

/-! ### Lists of channels -/

/-- Channel numbers up to 15 are taken in their order (R181, R182, R185). -/
theorem channelOperands_channels (ns : List (Fin 16)) :
    channelOperands (ns.map fun n : Fin 16 => byteOf n.val) = .ok ns := by
  have hnone : firstAbove 15 (ns.map fun n : Fin 16 => byteOf n.val) = none := by
    rw [firstAbove, List.findIdx?_eq_none_iff]
    intro b hb
    obtain ⟨n, -, rfl⟩ := List.mem_map.1 hb
    have := n.isLt
    simp only [byteOf, BitVec.toNat_ofNat, decide_eq_false_iff_not]
    omega
  have hall : (ns.map fun n : Fin 16 => byteOf n.val).filterMap channelOfByte = ns := by
    rw [List.filterMap_map, show channelOfByte ∘ (fun n : Fin 16 => byteOf n.val) = some from funext channelOfByte_byteOf,
      List.filterMap_some]
  simp only [channelOperands, hnone, hall]

/-- The first channel number above 15 refuses the request, with its position (R181, R182, R185). -/
theorem channelOperands_of_above {before after : List Byte} {n : Byte} (hbefore : ∀ b ∈ before, b.toNat ≤ 15)
    (hn : 16 ≤ n.toNat) : channelOperands (before ++ n :: after) = .error ⟨.outOfRange, 0, before.length⟩ := by
  have hfirst : firstAbove 15 (before ++ n :: after) = some before.length := by
    have hnone : before.findIdx? (fun b => decide (15 < b.toNat)) = none :=
      List.findIdx?_eq_none_iff.2 fun b hb => decide_eq_false (Nat.not_lt.2 (hbefore b hb))
    have hhead : decide (15 < n.toNat) = true := decide_eq_true hn
    simp [firstAbove, List.findIdx?_append, hnone, List.findIdx?_cons, hhead]
  simp only [channelOperands, hfirst]

/-! ### What RETRACK answers -/

theorem exec_retrack_of_admits {f : Frame} {s : State} (h : Admits .retrack f s) :
    exec .retrack s = .next (ownRetrack f s.takeHead) :=
  congrArg Host.Outcome.next (execute_of_admits h)

theorem exec_retrack_refused {f : Frame} {s : State} (hadm : Admits .retrack f s) {r : Rejection}
    (h : retrackOperands f.body = .error r) :
    exec .retrack s = .next (refusedWith f r.status.code (byteOf r.check) (byteOf r.index) s) := by
  rw [exec_retrack_of_admits hadm, ← takeHead_refuse hadm.named]
  simp only [ownRetrack, h]

/-- A RETRACK taken, where `record` gives what each channel's record becomes and `taken` the channels triggered (R94). -/
theorem exec_retrack_taken {f : Frame} {s : State} (hadm : Admits .retrack f s) {effect : Response} {ns : List (Fin 16)}
    (h : retrackOperands f.body = .ok (effect, ns)) {taken : Fin 16 → Prop} [DecidablePred taken]
    {record : Fin 16 → Tracker} (hrecord : ∀ n, s.retracked effect ns n = (record n, decide (taken n))) :
    exec .retrack s = .next
      (answered f 0x8B
        ([0x00, byteOf ((List.finRange 16).filter fun n => decide (taken n)).length] ++
          ((List.finRange 16).filter fun n => decide (taken n)).map fun n : Fin 16 => byteOf n.val)
        { s with trackers := .ofFn record }) := by
  have hsame (n : Fin 16) : s.takeHead.retracked effect ns n = (record n, decide (taken n)) := hrecord n
  rw [exec_retrack_of_admits hadm]
  simp only [ownRetrack, h, State.triggeredChannels, hsame]
  rfl

/-! ### The triggers taken (R83, R86, R94) -/

/-- A channel that is not named, or is FIXED or disabled, is skipped (R94). -/
theorem retracked_of_skipped (effect : Response) {ns : List (Fin 16)} {s : State} {n : Fin 16}
    (h : ¬ (n ∈ ns ∧ s.store.live.channels[n].zeroMode = .track ∧ s.store.live.channels[n].enabled = true)) :
    s.retracked effect ns n = (s.trackers[n], false) := by
  unfold State.retracked manualTrigger
  split_ifs with hn hskip
  · rfl
  · refine absurd ⟨hn, ?_, Bool.eq_true_of_not_eq_false fun he => hskip (.inr he)⟩ h
    cases hz : s.store.live.channels[n].zeroMode with
    | fixed => exact absurd (.inl hz) hskip
    | track => rfl
  · rfl

/-- A channel named that is TRACK and enabled takes the trigger of the effect (R83, R86, R94). -/
theorem retracked_of_named (effect : Response) {ns : List (Fin 16)} {s : State} {n : Fin 16}
    (h : n ∈ ns ∧ s.store.live.channels[n].zeroMode = .track ∧ s.store.live.channels[n].enabled = true) :
    s.retracked effect ns n =
      match effect with
      | .hard => (hardTriggered .manual s.engine.scanCounter s.trackers[n], true)
      | .soft => s.trackers[n].softTrigger s.store.live.channels[n].followScans s.engine.scanCounter := by
  obtain ⟨hn, hz, he⟩ := h
  have hmeant : ¬ (s.store.live.channels[n].zeroMode = .fixed ∨ s.store.live.channels[n].enabled = false) := by
    rw [hz, he]
    simp
  unfold State.retracked manualTrigger
  rw [if_pos hn, if_neg hmeant]
  cases effect <;> rfl

/-- HARD: a hard trigger on each channel named that is TRACK and enabled (R83, R94). -/
theorem retracked_hard (ns : List (Fin 16)) (s : State) (n : Fin 16) :
    s.retracked .hard ns n =
      (if n ∈ ns ∧ s.store.live.channels[n].zeroMode = .track ∧ s.store.live.channels[n].enabled = true then
        hardTriggered .manual s.engine.scanCounter s.trackers[n]
      else s.trackers[n],
      decide (n ∈ ns ∧ s.store.live.channels[n].zeroMode = .track ∧ s.store.live.channels[n].enabled = true)) := by
  by_cases h : n ∈ ns ∧ s.store.live.channels[n].zeroMode = .track ∧ s.store.live.channels[n].enabled = true
  · rw [retracked_of_named .hard h, if_pos h, decide_eq_true h]
  · rw [retracked_of_skipped .hard h, if_neg h, decide_eq_false h]

/-- What a soft trigger makes of a record of a TRACK channel, which HARD_PENDING does not take (R86). -/
theorem softTrigger_of_track {cfg : ChannelConfig} {t : Tracker} (h : RecordLaw cfg t) (hz : cfg.zeroMode = .track)
    (scan : Word32) :
    t.softTrigger cfg.followScans scan =
      (if t.state ≠ .hardPending then
        { t with
          state := if t.state = .continuous then .continuous else .following
          remaining :=
            if t.state = .continuous then t.remaining else if cfg.followScans = 0 then 1 else cfg.followScans
          lastTrigger := some ⟨.manual, scan⟩
          triggerCount := t.triggerCount + 1 }
      else t,
      decide (t.state ≠ .hardPending)) := by
  have hstate := h.state
  obtain ⟨state, offset, window, remaining, estimate, trigger, count⟩ := t
  cases state with
  | off => exact absurd (hz.symm.trans hstate.1) nofun
  | hardPending | following | holding | continuous => simp [Tracker.softTrigger, Tracker.mark, softFollow]

/-- SOFT: the same channels but for those in HARD_PENDING, with the effect of R86 (R94). -/
theorem retracked_soft (ns : List (Fin 16)) {s : State} (h : TrackerLaw s) (n : Fin 16) :
    s.retracked .soft ns n =
      (if n ∈ ns ∧ s.store.live.channels[n].zeroMode = .track ∧ s.store.live.channels[n].enabled = true ∧
          s.trackers[n].state ≠ .hardPending then
        { s.trackers[n] with
          state := if s.trackers[n].state = .continuous then .continuous else .following
          remaining :=
            if s.trackers[n].state = .continuous then s.trackers[n].remaining
            else if s.store.live.channels[n].followScans = 0 then 1 else s.store.live.channels[n].followScans
          lastTrigger := some ⟨.manual, s.engine.scanCounter⟩
          triggerCount := s.trackers[n].triggerCount + 1 }
      else s.trackers[n],
      decide (n ∈ ns ∧ s.store.live.channels[n].zeroMode = .track ∧ s.store.live.channels[n].enabled = true ∧
        s.trackers[n].state ≠ .hardPending)) := by
  by_cases hnamed : n ∈ ns ∧ s.store.live.channels[n].zeroMode = .track ∧ s.store.live.channels[n].enabled = true
  · obtain ⟨hn, hz, he⟩ := hnamed
    have htaken : (n ∈ ns ∧ s.store.live.channels[n].zeroMode = .track ∧ s.store.live.channels[n].enabled = true ∧
        s.trackers[n].state ≠ .hardPending) ↔ s.trackers[n].state ≠ .hardPending :=
      ⟨fun ⟨_, _, _, hp⟩ => hp, fun hp => ⟨hn, hz, he, hp⟩⟩
    rw [retracked_of_named .soft ⟨hn, hz, he⟩]
    simp only [htaken]
    exact softTrigger_of_track (h n) hz _
  · have hnone : ¬ (n ∈ ns ∧ s.store.live.channels[n].zeroMode = .track ∧ s.store.live.channels[n].enabled = true ∧
        s.trackers[n].state ≠ .hardPending) := fun ⟨hn, hz, he, _⟩ => hnamed ⟨hn, hz, he⟩
    rw [retracked_of_skipped .soft hnamed, if_neg hnone, decide_eq_false hnone]

/-- Settles O16: the operands of an admitted RETRACK, the triggers its effect takes and the two faults its checks find. -/
theorem retrackTakesManualTriggers : Obligations.RetrackTakesManualTriggers := by
  refine ⟨fun s f ns hadm hbody => ?_, fun s f ns hadm hlaw hbody => ?_,
    fun s f e bs hadm hbody => ⟨fun he => ?_, fun before n after he hbs hbefore hn => ?_⟩⟩
  · refine exec_retrack_taken (effect := .hard) (ns := ns) hadm ?_ (retracked_hard ns s)
    simp [hbody, retrackOperands, retrackEffectOfCode, channelOperands_channels]
  · refine exec_retrack_taken (effect := .soft) (ns := ns) hadm ?_ (retracked_soft ns hlaw)
    simp [hbody, retrackOperands, retrackEffectOfCode, channelOperands_channels]
  · have hnone : retrackEffectOfCode e = none := by
      have h0 : e ≠ 0 := by rintro rfl; exact absurd he (by decide)
      have h1 : e ≠ 1 := by rintro rfl; exact absurd he (by decide)
      rw [retrackEffectOfCode, if_neg h0, if_neg h1]
    exact exec_retrack_refused hadm (r := ⟨.outOfRange, 0, noIndex⟩) (by simp only [hbody, retrackOperands, hnone])
  · obtain ⟨effect, heffect⟩ : ∃ effect, retrackEffectOfCode e = some effect := by
      have h01 : e = 0 ∨ e = 1 := by bv_omega
      rcases h01 with rfl | rfl
      exacts [⟨.hard, rfl⟩, ⟨.soft, rfl⟩]
    exact exec_retrack_refused hadm (r := ⟨.outOfRange, 0, before.length⟩)
      (by simp only [hbody, retrackOperands, heffect, hbs, channelOperands_of_above hbefore hn])

end Sys2Proof.Machine
end

section
/-! PROOFS. The reset values meet every law of the parts (R69, R117, R128, R132, R158, R162). -/

namespace Sys2Proof.Machine

theorem alertLaw_reset : AlertLaw State.reset where
  entries := ⟨List.Pairwise.nil, nofun⟩
  outstanding := iff_of_false nofun fun h => h rfl
  waiting := nofun

theorem queueLaw_reset : QueueLaw State.reset.report where
  length := Nat.zero_le _
  tallyFull h := absurd rfl h
  tally := nofun
  gaps := nofun
  credits := Nat.zero_le _

/-- In STANDBY with no scan counted, the timer stopped and no settle or slot (R26, R27). -/
theorem engineLaw_reset : EngineLaw State.reset where
  counted := rfl
  numbered := rfl
  timer := iff_of_false (fun h => h rfl) fun ⟨_, h, _⟩ => h rfl
  arming := iff_of_false nofun nofun
  settling := iff_of_false nofun nofun
  slot := iff_of_false (fun h => h rfl) (Or.rec nofun nofun)
  lists _ n := by simp [State.reset, FrontEnd.reset]
  listening := iff_of_false nofun nofun

/-- Settles O47: law by law; nothing is held, queued or latched, and the defaults of the store and the trackers agree. -/
theorem resetHoldsTheLaws : Obligations.ResetHoldsTheLaws := by
  have link : LinkLaw State.reset := ⟨Nat.zero_le _, Nat.zero_le _⟩
  have startUp : StartUpLaw State.reset := ⟨fun _ => rfl, nofun⟩
  have account : Account State.reset.report := rfl
  have subscriptions : SubscriptionsLaw State.reset.subs := ⟨List.Pairwise.nil, nofun, nofun, nofun⟩
  have drivers : DriverLaw State.reset := Or.rec nofun nofun
  exact ⟨link, alertLaw_reset, startUp, queueLaw_reset, account, subscriptions, storeLaw_reset _, engineLaw_reset, drivers,
    frontEndLaw_reset rfl rfl, trackerLaw_reset rfl rfl, rfl⟩

end Sys2Proof.Machine
end

section
/-! PROOFS. The requests of the subscription table: SUBSCRIBE (R97 to R100, R190), UNSUBSCRIBE (R101, R191) and
LIST_SUBSCRIPTIONS (R102, R177). -/

namespace Sys2Proof.Machine

/-! ### Answers to an admitted request -/

theorem exec_subscribe_of_admits {f : Frame} {s : State} (h : Admits .subscribe f s) :
    exec .subscribe s = .next (ownSubscribe f s.takeHead) :=
  congrArg Host.Outcome.next (execute_of_admits h)

theorem exec_unsubscribe_of_admits {f : Frame} {s : State} (h : Admits .unsubscribe f s) :
    exec .unsubscribe s = .next (ownUnsubscribe f s.takeHead) :=
  congrArg Host.Outcome.next (execute_of_admits h)

theorem exec_listSubscriptions_of_admits {f : Frame} {s : State} (h : Admits .listSubscriptions f s) :
    exec .listSubscriptions s = .next (ownListSubscriptions f s.takeHead) :=
  congrArg Host.Outcome.next (execute_of_admits h)

/-- A SUBSCRIBE is refused with what its checks find. -/
theorem exec_subscribe_refused {f : Frame} {s : State} (hadm : Admits .subscribe f s) {r : Rejection}
    (h : subscribeOperands s.subs f.body = .error r) :
    exec .subscribe s = .next (refusedWith f r.status.code (byteOf r.check) (byteOf r.index) s) := by
  rw [exec_subscribe_of_admits hadm, ← takeHead_refuse hadm.named]
  simp only [ownSubscribe, State.takeHead_subs, h]

/-! ### The body of a SUBSCRIBE -/

/-- A SUBSCRIBE body reads back (R190). -/
theorem rawSubscription_of_body {p1 p2 p3 : Int} (h1 : FourBytes p1) (h2 : FourBytes p2) (h3 : FourBytes p3)
    (id channel kind flags : Byte) :
    rawSubscription ([id, channel, kind] ++ bytesOfInt p1 ++ bytesOfInt p2 ++ bytesOfInt p3 ++ [flags]) =
      some ⟨id, channel, kind, p1, p2, p3, flags⟩ := by
  simp only [bytesOfInt, bytes4, List.cons_append, List.nil_append, rawSubscription, intOfBytes4_bytes _ h1,
    intOfBytes4_bytes _ h2, intOfBytes4_bytes _ h3]

theorem channelOfByte_eq_none {b : Byte} (h : 16 ≤ b.toNat) : channelOfByte b = none :=
  dif_neg (by omega)

/-! ### The checks of R99 -/

/-- Checks 3 and 4 pass exactly on a condition that the kind and the parameters name and whose ranges hold. -/
theorem conditionOperands_eq_ok {r : RawSubscription} {c : Condition} :
    conditionOperands r = .ok c ↔ NamesCondition r.kind r.first r.second r.third c ∧ ConditionLaw c := by
  have hlimit : Config.valueLimit = 8388607 := rfl
  unfold conditionOperands
  rw [hlimit]
  constructor
  · intro h
    split_ifs at h with h0 hn h1 hd h2 hl <;> cases h
    · simp only [NamesCondition, ConditionLaw, h0, true_and]
      omega
    · simp only [NamesCondition, ConditionLaw, h1, hd, and_self]
    · simp only [NamesCondition, ConditionLaw, ValueRange, h2, true_and]
      omega
  · rintro ⟨hnames, hlaw⟩
    cases c with
    | every n =>
      obtain ⟨hkind, hfirst⟩ := hnames
      obtain ⟨hlow, hhigh⟩ := hlaw
      rw [if_pos hkind, if_pos (by omega), hfirst, Int.toNat_natCast]
    | deadband d =>
      obtain ⟨hkind, rfl⟩ := hnames
      rw [if_neg (by rw [hkind]; decide), if_pos hkind]
      exact if_pos hlaw
    | limit low high hysteresis =>
      obtain ⟨hkind, rfl, rfl, rfl⟩ := hnames
      obtain ⟨hlow, hhigh, hless, hpos, hmax, htwice⟩ := hlaw
      rw [if_neg (by rw [hkind]; decide), if_neg (by rw [hkind]; decide), if_pos hkind,
        if_pos ⟨hlow.1, hlow.2, hhigh.1, hhigh.2, hless, hpos, hmax, htwice⟩]

/-- Where they fail, the check is 3 for a kind above 2 and else 4. -/
theorem conditionOperands_eq_error {r : RawSubscription} {e : Rejection} (h : conditionOperands r = .error e) :
    e = ⟨.outOfRange, if r.kind.toNat ≤ 2 then 4 else 3, noIndex⟩ := by
  unfold conditionOperands at h
  split_ifs at h with h0 _ h1 _ h2 <;> cases h
  · rw [h0]; rfl
  · rw [h1]; rfl
  · rw [h2]; rfl
  · rw [if_neg (by bv_omega)]

/-- With no condition that the kind and the parameters name in its ranges, check 3 or 4 refuses. -/
theorem conditionOperands_refused {r : RawSubscription}
    (h : ∀ c, NamesCondition r.kind r.first r.second r.third c → ¬ ConditionLaw c) :
    conditionOperands r = .error ⟨.outOfRange, if r.kind.toNat ≤ 2 then 4 else 3, noIndex⟩ := by
  cases hc : conditionOperands r with
  | error e => rw [conditionOperands_eq_error hc]
  | ok c =>
    obtain ⟨hnames, hlaw⟩ := conditionOperands_eq_ok.1 hc
    exact absurd hlaw (h c hnames)

theorem namesCondition_kind_le {kind : Byte} {p1 p2 p3 : Int} {c : Condition} (h : NamesCondition kind p1 p2 p3 c) :
    kind.toNat ≤ 2 := by
  cases c <;> rw [h.1] <;> decide

/-- Check 1. -/
theorem newSubscription_badId {r : RawSubscription} (h : r.id.toNat = 0 ∨ 25 ≤ r.id.toNat) :
    newSubscription r = .error ⟨.outOfRange, 1, noIndex⟩ :=
  if_pos (by simp only [Config.subscriptions]; omega)

theorem not_idOutOfRange {id : Byte} (hlow : 1 ≤ id.toNat) (hhigh : id.toNat ≤ 24) :
    ¬ (id.toNat < 1 ∨ Config.subscriptions < id.toNat) := by
  simp only [Config.subscriptions]; omega

/-- Check 2. -/
theorem newSubscription_badChannel {r : RawSubscription} (hlow : 1 ≤ r.id.toNat) (hhigh : r.id.toNat ≤ 24)
    (h : 16 ≤ r.channel.toNat) : newSubscription r = .error ⟨.outOfRange, 2, noIndex⟩ := by
  simp only [newSubscription, if_neg (not_idOutOfRange hlow hhigh), channelOfByte_eq_none h]

/-- Checks 3 and 4. -/
theorem newSubscription_badCondition {r : RawSubscription} {n : Fin 16} {e : Rejection} (hlow : 1 ≤ r.id.toNat)
    (hhigh : r.id.toNat ≤ 24) (hn : channelOfByte r.channel = some n) (h : conditionOperands r = .error e) :
    newSubscription r = .error e := by
  simp only [newSubscription, if_neg (not_idOutOfRange hlow hhigh), hn, h]

/-- Check 5. -/
theorem newSubscription_badFlags {r : RawSubscription} {n : Fin 16} {c : Condition} (hlow : 1 ≤ r.id.toNat)
    (hhigh : r.id.toNat ≤ 24) (hn : channelOfByte r.channel = some n) (hc : conditionOperands r = .ok c)
    (h : 4 ≤ r.flags.toNat) : newSubscription r = .error ⟨.outOfRange, 5, noIndex⟩ := by
  simp only [newSubscription, if_neg (not_idOutOfRange hlow hhigh), hn, hc, if_pos (Nat.lt_of_succ_le h)]

/-- The entry of operands that pass checks 1 to 5. -/
theorem newSubscription_eq_ok {r : RawSubscription} {n : Fin 16} {c : Condition} (hlow : 1 ≤ r.id.toNat)
    (hhigh : r.id.toNat ≤ 24) (hn : channelOfByte r.channel = some n) (hc : conditionOperands r = .ok c)
    (hflags : r.flags.toNat ≤ 3) :
    newSubscription r =
      .ok
        { id := r.id.toNat, channel := n, condition := c, withRaw := decide (r.flags.toNat % 2 = 1),
          withOffset := decide (2 ≤ r.flags.toNat), scansCounted := 0, lastReported := none, zone := .unknown } := by
  have hraw : r.flags.getLsbD 0 = decide (r.flags.toNat % 2 = 1) := by
    rw [BitVec.getLsbD, Nat.testBit_zero]
  have hoffset : r.flags.getLsbD 1 = decide (2 ≤ r.flags.toNat) := by
    rw [BitVec.getLsbD, Nat.testBit_succ, Nat.testBit_zero]
    exact decide_eq_decide.2 (by omega)
  simp only [newSubscription, if_neg (not_idOutOfRange hlow hhigh), hn, hc, if_neg (Nat.not_lt.2 hflags), hraw, hoffset]

/-- What passes checks 1 to 5 is a new entry in its ranges and its creation state. -/
theorem newSubscription_law {r : RawSubscription} {e : Subscription} (h : newSubscription r = .ok e) :
    (1 ≤ e.id ∧ e.id ≤ 24) ∧ ConditionLaw e.condition ∧ EvaluationLaw e := by
  unfold newSubscription at h
  by_cases hid : r.id.toNat < 1 ∨ Config.subscriptions < r.id.toNat
  · rw [if_pos hid] at h
    cases h
  rw [if_neg hid] at h
  simp only [Config.subscriptions] at hid
  split at h
  · cases h
  · split at h
    · cases h
    · next c hc =>
      have hlaw := (conditionOperands_eq_ok.1 hc).2
      split_ifs at h
      cases h
      refine ⟨⟨by dsimp only; omega, by dsimp only; omega⟩, hlaw, ?_⟩
      cases c with
      | every n => exact ⟨hlaw.1, rfl, rfl⟩
      | deadband d => exact ⟨rfl, nofun, rfl⟩
      | limit low high hysteresis => exact ⟨rfl, rfl⟩

/-- Checks 1 to 5 refuse a SUBSCRIBE whatever the table. -/
theorem subscribeOperands_of_error {subs : List Subscription} {body : List Byte} {r : RawSubscription} {e : Rejection}
    (hraw : rawSubscription body = some r) (h : newSubscription r = .error e) : subscribeOperands subs body = .error e := by
  simp only [subscribeOperands, hraw, h]

/-- Checks 6 and 7, for an entry that passes checks 1 to 5. -/
theorem subscribeOperands_of_ok {subs : List Subscription} {body : List Byte} {r : RawSubscription} {e : Subscription}
    (hraw : rawSubscription body = some r) (h : newSubscription r = .ok e) :
    subscribeOperands subs body =
      if 24 ≤ subs.length then .error ⟨.tableFull, 6, noIndex⟩
      else if ∃ x ∈ subs, x.id = e.id then .error ⟨.idInUse, 7, e.id⟩
      else .ok e := by
  simp [subscribeOperands, hraw, h, Config.subscriptions]

/-- An entry that passes the seven checks is new to the table and in its ranges. -/
theorem subscribeOperands_law {subs : List Subscription} {body : List Byte} {e : Subscription}
    (h : subscribeOperands subs body = .ok e) :
    (∀ x ∈ subs, x.id ≠ e.id) ∧ (1 ≤ e.id ∧ e.id ≤ 24) ∧ ConditionLaw e.condition ∧ EvaluationLaw e := by
  cases hraw : rawSubscription body with
  | none => simp [subscribeOperands, hraw] at h
  | some r =>
    cases hnew : newSubscription r with
    | error x => rw [subscribeOperands_of_error hraw hnew] at h; cases h
    | ok x =>
      rw [subscribeOperands_of_ok hraw hnew] at h
      split_ifs at h with _ hused
      cases h
      exact ⟨fun y hy hid => hused ⟨y, hy, hid⟩, newSubscription_law hnew⟩

/-! ### SUBSCRIBE -/

@[simp] theorem length_insertSubscription (e : Subscription) (subs : List Subscription) :
    (insertSubscription e subs).length = subs.length + 1 := by
  induction subs with
  | nil => rfl
  | cons x xs ih =>
    simp only [insertSubscription]
    split_ifs <;> simp [ih]

/-- In an ascending table without its id an entry stands between the smaller and the greater ids (R97, R100). -/
theorem insertSubscription_eq {e : Subscription} {subs : List Subscription} (hsorted : subs.Pairwise fun a b => a.id < b.id)
    (hnew : ∀ x ∈ subs, x.id ≠ e.id) :
    insertSubscription e subs =
      subs.filter (fun x => decide (x.id < e.id)) ++ e :: subs.filter (fun x => decide (e.id < x.id)) := by
  induction subs with
  | nil => rfl
  | cons x xs ih =>
    obtain ⟨hx, hxs⟩ := List.pairwise_cons.1 hsorted
    have hne := hnew x List.mem_cons_self
    rw [insertSubscription]
    split_ifs with hlt
    · have habove : ∀ y ∈ x :: xs, e.id < y.id :=
        List.forall_mem_cons.2 ⟨hlt, fun y hy => hlt.trans (hx y hy)⟩
      rw [List.filter_eq_nil_iff.2 fun y hy => by simpa using (habove y hy).le,
        List.filter_eq_self.2 fun y hy => decide_eq_true (habove y hy), List.nil_append]
    · rw [ih hxs fun y hy => hnew y (List.mem_cons_of_mem _ hy), List.filter_cons_of_pos (by simpa using by omega),
        List.filter_cons_of_neg (by simpa using hlt), List.cons_append]

/-- Settles O18: the body reads back to an entry that passes every check, and its place in the table is between the smaller
and the greater ids. -/
theorem subscribeCreatesEntry : Obligations.SubscribeCreatesEntry := by
  intro s f id kind flags channel p1 p2 p3 condition hadm hbody h1 h2 h3 hnames hlaw hlow hhigh hflags hroom hnew hsubs
  have hpass := subscribeOperands_of_ok (subs := s.subs) (rawSubscription_of_body h1 h2 h3 id (byteOf channel.val) kind flags)
    (newSubscription_eq_ok hlow hhigh (channelOfByte_byteOf channel) (conditionOperands_eq_ok.2 ⟨hnames, hlaw⟩) hflags)
  rw [← hbody, if_neg (by omega), if_neg (by simpa using hnew)] at hpass
  rw [exec_subscribe_of_admits hadm]
  simp only [ownSubscribe, State.takeHead_subs, hpass, length_insertSubscription]
  rw [insertSubscription_eq hsubs.sorted hnew]
  rfl

/-- Settles O19: each check of R99 after those before it have passed. -/
theorem subscribeRefusals : Obligations.SubscribeRefusals := by
  intro s f id channel kind flags p1 p2 p3 hadm h1 h2 h3 hbody
  have hraw : rawSubscription f.body = some ⟨id, channel, kind, p1, p2, p3, flags⟩ := by
    rw [hbody, rawSubscription_of_body h1 h2 h3]
  have refused {check : Nat}
      (h : newSubscription ⟨id, channel, kind, p1, p2, p3, flags⟩ = .error ⟨.outOfRange, check, noIndex⟩) :
      exec .subscribe s = .next (refusedWith f 0x06 (byteOf check) 0xFF s) :=
    exec_subscribe_refused hadm (subscribeOperands_of_error hraw h)
  refine ⟨fun hid => refused (newSubscription_badId hid), fun hlow hhigh => ⟨fun hchannel => ?_, fun hchannel => ?_⟩⟩
  · exact refused (newSubscription_badChannel hlow hhigh hchannel)
  obtain ⟨n, rfl⟩ : ∃ n : Fin 16, channel = byteOf n.val :=
    ⟨⟨channel.toNat, by omega⟩, by simp [byteOf]⟩
  refine ⟨fun hkind => ?_, fun hkind hnone => ?_, fun c hnames hlaw => ⟨fun hflags => ?_, fun hflags => ?_⟩⟩
  · have hcond := conditionOperands_refused (r := ⟨id, byteOf n.val, kind, p1, p2, p3, flags⟩)
      fun c hnames => absurd (namesCondition_kind_le hnames) (Nat.not_le.2 hkind)
    rw [if_neg (Nat.not_le.2 hkind)] at hcond
    exact refused (newSubscription_badCondition hlow hhigh (channelOfByte_byteOf n) hcond)
  · have hcond := conditionOperands_refused (r := ⟨id, byteOf n.val, kind, p1, p2, p3, flags⟩) hnone
    rw [if_pos hkind] at hcond
    exact refused (newSubscription_badCondition hlow hhigh (channelOfByte_byteOf n) hcond)
  · exact refused (newSubscription_badFlags hlow hhigh (channelOfByte_byteOf n)
      (conditionOperands_eq_ok.2 ⟨hnames, hlaw⟩) hflags)
  · have hchecks := subscribeOperands_of_ok (subs := s.subs) hraw
      (newSubscription_eq_ok hlow hhigh (channelOfByte_byteOf n) (conditionOperands_eq_ok.2 ⟨hnames, hlaw⟩) hflags)
    refine ⟨fun hfull => ?_, fun hroom hused => ?_⟩
    · rw [if_pos hfull] at hchecks
      exact exec_subscribe_refused hadm hchecks
    · rw [if_neg (by omega), if_pos hused] at hchecks
      rw [exec_subscribe_refused hadm hchecks]
      simp only [byteOf, BitVec.ofNat_toNat, BitVec.setWidth_eq]
      rfl

/-! ### UNSUBSCRIBE and LIST_SUBSCRIPTIONS -/

theorem exec_unsubscribe_taken {f : Frame} {s : State} {id : Byte} (hadm : Admits .unsubscribe f s) (hbody : f.body = [id])
    (h : ∃ e ∈ s.subs, e.id = id.toNat) :
    exec .unsubscribe s = .next
      (answered f 0x8F [0x00, byteOf (s.subs.filter fun e => decide (e.id ≠ id.toNat)).length]
        { s with subs := s.subs.filter fun e => decide (e.id ≠ id.toNat) }) := by
  rw [exec_unsubscribe_of_admits hadm]
  have hany : (s.takeHead.subs.any fun x => decide (x.id = id.toNat)) = true := by simpa using h
  simp only [ownUnsubscribe, hbody, hany, ↓reduceIte]
  rfl

theorem exec_unsubscribe_notFound {f : Frame} {s : State} {id : Byte} (hadm : Admits .unsubscribe f s)
    (hbody : f.body = [id]) (h : ∀ e ∈ s.subs, e.id ≠ id.toNat) :
    exec .unsubscribe s = .next (refusedWith f 0x0D 0 0xFF s) := by
  rw [exec_unsubscribe_of_admits hadm]
  have hany : (s.takeHead.subs.any fun x => decide (x.id = id.toNat)) = false := by simpa using h
  simp only [ownUnsubscribe, hbody, hany, Bool.false_eq_true, ↓reduceIte]
  rw [takeHead_refuse hadm.named]
  rfl

/-- The entries from an id onward, where the table is parted at that id. -/
theorem filter_onward {first : Nat} {below onward : List Subscription} (hbelow : ∀ e ∈ below, e.id < first)
    (honward : ∀ e ∈ onward, first ≤ e.id) :
    (below ++ onward).filter (fun e => decide (first ≤ e.id)) = onward := by
  rw [List.filter_append, List.filter_eq_nil_iff.2 fun e he => by simpa using hbelow e he,
    List.filter_eq_self.2 fun e he => decide_eq_true (honward e he), List.nil_append]

/-- The reply that lists from an id onward: the table's count, the id of the first entry beyond those shown, and these. -/
theorem listContents_eq {first : Nat} {below shown beyond : List Subscription} (hbelow : ∀ e ∈ below, e.id < first)
    (hshown : ∀ e ∈ shown, first ≤ e.id) (hbeyond : ∀ e ∈ beyond, first ≤ e.id) (hlength : shown.length ≤ 8)
    (hfull : beyond ≠ [] → shown.length = 8) :
    listContents first (below ++ shown ++ beyond) =
      [byteOf (below ++ shown ++ beyond).length, byteOf (nextId beyond), byteOf shown.length] ++
        shown.flatMap Subscription.bytes := by
  have honward : ∀ e ∈ shown ++ beyond, first ≤ e.id := fun e he => (List.mem_append.1 he).elim (hshown e) (hbeyond e)
  have hpart : (shown ++ beyond).take 8 = shown ∧ (shown ++ beyond).drop 8 = beyond := by
    by_cases hnone : beyond = []
    · rw [hnone, List.append_nil, List.take_of_length_le hlength, List.drop_of_length_le hlength]
      exact ⟨rfl, rfl⟩
    · exact ⟨List.take_left' (hfull hnone), List.drop_left' (hfull hnone)⟩
  simp only [listContents, listedEntries]
  rw [List.append_assoc, filter_onward hbelow honward, hpart.1, hpart.2]

theorem contentFlags_eq (withRaw withOffset : Bool) :
    contentFlags withRaw withOffset = byteOf ((if withRaw then 1 else 0) + (if withOffset then 2 else 0)) := by
  cases withRaw <;> cases withOffset <;> rfl

/-- An entry as LIST_SUBSCRIPTIONS carries it, by its condition and by whether a value was reported (R177). -/
theorem Subscription.bytes_eq (e : Subscription) :
    e.bytes =
      [byteOf e.id, byteOf e.channel.val] ++
        (match e.condition with
          | .every n => [0] ++ bytesOfInt n ++ bytesOfInt 0 ++ bytesOfInt 0
          | .deadband d => [1] ++ bytesOfInt d ++ bytesOfInt 0 ++ bytesOfInt 0
          | .limit low high hysteresis => [2] ++ bytesOfInt low ++ bytesOfInt high ++ bytesOfInt hysteresis) ++
        [byteOf ((if e.withRaw then 1 else 0) + (if e.withOffset then 2 else 0))] ++
        bytes2OfNat e.scansCounted ++ [e.zone.code] ++
        (match e.lastReported with
          | none => [0]
          | some v => 1 :: bytesOfInt v) := by
  rw [Subscription.bytes, contentFlags_eq]
  cases e.condition <;> cases e.lastReported <;> rfl

theorem byteOf_nextId (rest : List Subscription) :
    byteOf (nextId rest) = match rest with
      | [] => 0
      | e :: _ => byteOf e.id := by
  cases rest <;> rfl

/-- Settles O20: an id in the table or not, and a table parted at the first id asked for. -/
theorem unsubscribeAndList : Obligations.UnsubscribeAndList := by
  refine ⟨fun s f id hadm hbody => ⟨exec_unsubscribe_taken hadm hbody, exec_unsubscribe_notFound hadm hbody⟩,
    fun s f first below shown beyond hadm hbody hlow hhigh hsubs hbelow hshown hbeyond hlength hfull => ?_,
    fun s f first hadm hbody hfirst => ?_⟩
  · rw [exec_listSubscriptions_of_admits hadm]
    simp only [ownListSubscriptions, hbody, if_neg (not_idOutOfRange hlow hhigh), State.takeHead_subs]
    rw [hsubs, listContents_eq hbelow hshown hbeyond hlength hfull, State.accept, takeHead_answer,
      funext Subscription.bytes_eq, byteOf_nextId]
    rfl
  · rw [exec_listSubscriptions_of_admits hadm]
    have hrange : first.toNat < 1 ∨ Config.subscriptions < first.toNat := by simp only [Config.subscriptions]; omega
    simp only [ownListSubscriptions, hbody, if_pos hrange]
    rw [takeHead_refuse hadm.named]
    rfl

end Sys2Proof.Machine
end

section
/-! PROOFS. A subscription entry against a result (R105 to R110), what every command can do to the subscription table, and from it
the table's law (R97, R98). -/

namespace Sys2Proof.Machine

/-! ### The next zone of a LIMIT entry (R108) -/

section
variable {low high hysteresis : Int} (hlaw : ConditionLaw (.limit low high hysteresis)) (z : Zone) (v : Int)
include hlaw

theorem nextZone_eq_above_iff :
    nextZone low high hysteresis z v = .above ↔ high < v ∨ z = .above ∧ high - hysteresis < v := by
  obtain ⟨-, -, hless, hpos, -, htwice⟩ := hlaw
  cases z <;>
    · simp only [nextZone]
      split_ifs <;> simp <;> omega

theorem nextZone_eq_below_iff :
    nextZone low high hysteresis z v = .below ↔ v < low ∨ z = .below ∧ v < low + hysteresis := by
  obtain ⟨-, -, hless, hpos, -, htwice⟩ := hlaw
  cases z <;>
    · simp only [nextZone]
      split_ifs <;> simp <;> omega

end

theorem nextZone_ne_unknown (low high hysteresis : Int) (z : Zone) (v : Int) :
    nextZone low high hysteresis z v ≠ .unknown := by
  cases z <;>
    · simp only [nextZone]
      split_ifs <;> simp

/-- A zone other than UNKNOWN is known by whether it is ABOVE and whether it is BELOW. -/
theorem Zone.eq_of_iff {y z : Zone} (habove : y = .above ↔ z = .above) (hbelow : y = .below ↔ z = .below)
    (hy : y ≠ .unknown) (hz : z ≠ .unknown) : y = z := by
  cases y with
  | unknown => exact absurd rfl hy
  | above => exact (habove.1 rfl).symm
  | below => exact (hbelow.1 rfl).symm
  | inside =>
    cases z with
    | unknown => exact absurd rfl hz
    | inside => rfl
    | above => cases habove.2 rfl
    | below => cases hbelow.2 rfl

/-! ### An entry against a result -/

section
variable {e : Subscription} {r : ChannelResult}

/-- The record that the statement gives is the one an entry makes (R109, R110). -/
theorem makeRecord_eq (e : Subscription) (r : ChannelResult) (zone : Option Zone) :
    e.makeRecord r zone =
      { subId := e.id, channel := e.channel, scanNumber := r.scanNumber, epoch := r.epoch, flags := r.flags, zone := zone,
        value := match r.measured with
          | none => none
          | some m => some m.value,
        rawMean := match r.measured, e.withRaw with
          | some m, true => some m.rawMean
          | _, _ => none,
        offsetUsed := if e.withOffset = true then some r.offsetUsed else none } := by
  unfold Subscription.makeRecord
  cases r.measured <;> cases e.withRaw <;> rfl

theorem evaluate_every {n : Nat} (h : e.condition = .every n) :
    e.evaluate r =
      if e.scansCounted + 1 = n then ({ e with scansCounted := 0 }, some (e.makeRecord r none))
      else ({ e with scansCounted := e.scansCounted + 1 }, none) := by
  simp only [Subscription.evaluate, h]

theorem evaluate_deadband_absent {d : Int} (h : e.condition = .deadband d) (hr : r.measured = none) :
    e.evaluate r = (e, none) := by
  simp only [Subscription.evaluate, h, hr]

/-- A DEADBAND entry reports a value where none was reported or it has moved by `d` (R106). -/
theorem evaluate_deadband {d : Int} {m : Measured} (h : e.condition = .deadband d) (hr : r.measured = some m) :
    e.evaluate r =
      if ∀ last, e.lastReported = some last → d ≤ |m.value - last| then
        ({ e with lastReported := some m.value }, some (e.makeRecord r none))
      else (e, none) := by
  simp only [Subscription.evaluate, h, hr]
  cases e.lastReported with
  | none => simp
  | some last => simp

theorem evaluate_limit_absent {low high hysteresis : Int} (h : e.condition = .limit low high hysteresis)
    (hr : r.measured = none) : e.evaluate r = (e, none) := by
  simp only [Subscription.evaluate, h, hr]

/-- A LIMIT entry reports where its zone changes (R107). -/
theorem evaluate_limit {low high hysteresis : Int} {m : Measured} {z : Zone} (h : e.condition = .limit low high hysteresis)
    (hr : r.measured = some m) (hz : nextZone low high hysteresis e.zone m.value = z) :
    e.evaluate r = if z = e.zone then (e, none) else ({ e with zone := z }, some (e.makeRecord r (some z))) := by
  simp only [Subscription.evaluate, h, hr, hz]

end

/-- Settles O45: by the entry's condition, a LIMIT entry's next zone being the one that is ABOVE and BELOW where R108 says. -/
theorem subscriptionsEvaluated : Obligations.SubscriptionsEvaluated := by
  intro e r zone record hrecord
  have hmade : record = e.makeRecord r zone := hrecord.trans (makeRecord_eq e r zone).symm
  refine ⟨fun n hcond hzone => ⟨fun hlast => ?_, fun hmore => ?_⟩,
    fun d hcond hzone => ⟨evaluate_deadband_absent hcond, fun m hm => ⟨fun hnone => ?_, fun last hlast => ⟨fun hmoved => ?_,
      fun hnear => ?_⟩⟩⟩,
    fun low high hysteresis hcond hlaw => ⟨evaluate_limit_absent hcond, fun m next hm hzone habove hbelow hknown => ?_⟩⟩
  · rw [evaluate_every hcond, if_pos hlast, hmade, hzone]
  · rw [evaluate_every hcond, if_neg hmore]
  · rw [evaluate_deadband hcond hm, if_pos (by simp [hnone]), hmade, hzone]
  · rw [evaluate_deadband hcond hm, if_pos (by simpa [hlast] using hmoved), hmade, hzone]
  · rw [evaluate_deadband hcond hm, if_neg (by simpa [hlast] using hnear)]
  · rw [hcond] at hlaw
    have hnext : nextZone low high hysteresis e.zone m.value = next :=
      Zone.eq_of_iff ((nextZone_eq_above_iff hlaw e.zone m.value).trans habove.symm)
        ((nextZone_eq_below_iff hlaw e.zone m.value).trans hbelow.symm) (nextZone_ne_unknown low high hysteresis e.zone m.value)
        hknown
    rw [evaluate_limit hcond hm hnext, hmade, hzone]
    exact ⟨fun hsame => if_pos hsame, fun hmoved => if_neg hmoved⟩

/-! ### What an evaluation leaves of an entry -/

/-- An evaluation writes nothing but the evaluation state. -/
theorem evaluate_frame (e : Subscription) (r : ChannelResult) :
    (e.evaluate r).1.id = e.id ∧ (e.evaluate r).1.condition = e.condition := by
  cases hcond : e.condition with
  | every n => rw [evaluate_every hcond]; split_ifs <;> exact ⟨rfl, hcond⟩
  | deadband d =>
    cases hm : r.measured with
    | none => rw [evaluate_deadband_absent hcond hm]; exact ⟨rfl, hcond⟩
    | some m => rw [evaluate_deadband hcond hm]; split_ifs <;> exact ⟨rfl, hcond⟩
  | limit low high hysteresis =>
    cases hm : r.measured with
    | none => rw [evaluate_limit_absent hcond hm]; exact ⟨rfl, hcond⟩
    | some m => rw [evaluate_limit hcond hm rfl]; split_ifs <;> exact ⟨rfl, hcond⟩

/-- An evaluation keeps the evaluation state as its condition uses it, where a value is in its range. -/
theorem evaluationLaw_evaluate {e : Subscription} {r : ChannelResult} (h : EvaluationLaw e)
    (hr : ∀ m, r.measured = some m → ValueRange m.value) : EvaluationLaw (e.evaluate r).1 := by
  cases hcond : e.condition with
  | every n =>
    obtain ⟨hcount, hlast, hzone⟩ : e.scansCounted < n ∧ e.lastReported = none ∧ e.zone = .unknown := by
      simpa only [EvaluationLaw, hcond] using h
    rw [evaluate_every hcond]
    split_ifs with hn <;> simp only [EvaluationLaw, hcond]
    · exact ⟨by omega, hlast, hzone⟩
    · exact ⟨by omega, hlast, hzone⟩
  | deadband d =>
    cases hm : r.measured with
    | none => rwa [evaluate_deadband_absent hcond hm]
    | some m =>
      rw [evaluate_deadband hcond hm]
      split_ifs
      · obtain ⟨hcount, -, hzone⟩ :
            e.scansCounted = 0 ∧ (∀ v, e.lastReported = some v → ValueRange v) ∧ e.zone = .unknown := by
          simpa only [EvaluationLaw, hcond] using h
        simp only [EvaluationLaw, hcond]
        refine ⟨hcount, fun v hv => ?_, hzone⟩
        cases hv
        exact hr m hm
      · exact h
  | limit low high hysteresis =>
    cases hm : r.measured with
    | none => rwa [evaluate_limit_absent hcond hm]
    | some m =>
      rw [evaluate_limit hcond hm rfl]
      split_ifs
      · exact h
      · simp only [EvaluationLaw, hcond] at h ⊢
        exact h

/-- An entry is left alone where its channel has no result, and else evaluated against it (R104). -/
theorem step_fst_cases (results : Vector (Option ChannelResult) 16) (e : Subscription) :
    (e.step results).1 = e ∨ ∃ r, results[e.channel] = some r ∧ (e.step results).1 = (e.evaluate r).1 := by
  unfold Subscription.step
  cases results[e.channel] <;> simp

theorem step_frame (results : Vector (Option ChannelResult) 16) (e : Subscription) :
    (e.step results).1.id = e.id ∧ (e.step results).1.condition = e.condition := by
  rcases step_fst_cases results e with h | ⟨r, -, h⟩ <;> rw [h]
  · exact ⟨rfl, rfl⟩
  · exact evaluate_frame e r

/-- A value in a record that a completion writes is held to its range (R65). -/
theorem valueRange_newResult {s : State} {n : Fin 16} {r : ChannelResult} {m : Measured}
    (h : s.newResult n = some r) (hm : r.measured = some m) : ValueRange m.value := by
  unfold State.newResult at h
  dsimp only at h
  split_ifs at h
  cases h
  simp only [channelResult] at hm
  split_ifs at hm
  cases hm
  exact valueRange_clampValue _

/-! ### The law of the table, operation by operation -/

/-- SUBSCRIBE keeps the law (R97 to R100). -/
theorem subscriptionsLaw_insert {subs : List Subscription} {e : Subscription} (h : SubscriptionsLaw subs)
    (hnew : ∀ x ∈ subs, x.id ≠ e.id) (hid : 1 ≤ e.id ∧ e.id ≤ 24) (hcond : ConditionLaw e.condition)
    (heval : EvaluationLaw e) : SubscriptionsLaw (insertSubscription e subs) := by
  have hall {p : Subscription → Prop} (he : p e) (hsubs : ∀ x ∈ subs, p x) : ∀ x ∈ insertSubscription e subs, p x := by
    rw [insertSubscription_eq h.sorted hnew]
    intro x hx
    rcases List.mem_append.1 hx with hx | hx
    · exact hsubs x (List.mem_filter.1 hx).1
    · rcases List.mem_cons.1 hx with rfl | hx
      · exact he
      · exact hsubs x (List.mem_filter.1 hx).1
  refine ⟨?_, hall hid h.ids, hall hcond h.conditions, hall heval h.evaluation⟩
  rw [insertSubscription_eq h.sorted hnew]
  have hbelow : ∀ x ∈ subs.filter (fun x => decide (x.id < e.id)), x.id < e.id := fun x hx => by
    simpa using (List.mem_filter.1 hx).2
  have habove : ∀ x ∈ subs.filter (fun x => decide (e.id < x.id)), e.id < x.id := fun x hx => by
    simpa using (List.mem_filter.1 hx).2
  refine List.pairwise_append.2 ⟨h.sorted.filter _, List.pairwise_cons.2 ⟨habove, h.sorted.filter _⟩, fun x hx y hy => ?_⟩
  rcases List.mem_cons.1 hy with rfl | hy
  · exact hbelow x hx
  · exact (hbelow x hx).trans (habove y hy)

/-- UNSUBSCRIBE keeps the law (R101). -/
theorem subscriptionsLaw_remove {subs : List Subscription} (id : Nat) (h : SubscriptionsLaw subs) :
    SubscriptionsLaw (removeSubscription id subs) where
  sorted := h.sorted.filter _
  ids e he := h.ids e (List.mem_filter.1 he).1
  conditions e he := h.conditions e (List.mem_filter.1 he).1
  evaluation e he := h.evaluation e (List.mem_filter.1 he).1

/-- A completion's evaluation keeps the law (R104 to R107). -/
theorem subscriptionsLaw_evaluated {subs : List Subscription} (u : State) (h : SubscriptionsLaw subs) :
    SubscriptionsLaw (subs.map fun e => (e.step (.ofFn u.newResult)).1) where
  sorted := List.pairwise_map.2 (h.sorted.imp fun {a b} hab => by
    rwa [(step_frame _ a).1, (step_frame _ b).1])
  ids := List.forall_mem_map.2 fun e he => by rw [(step_frame _ e).1]; exact h.ids e he
  conditions := List.forall_mem_map.2 fun e he => by rw [(step_frame _ e).2]; exact h.conditions e he
  evaluation := List.forall_mem_map.2 fun e he => by
    rcases step_fst_cases (.ofFn u.newResult) e with hstep | ⟨r, hr, hstep⟩ <;> rw [hstep]
    · exact h.evaluation e he
    · exact evaluationLaw_evaluate (h.evaluation e he) fun m hm => valueRange_newResult (by simpa using hr) hm

theorem subscriptionsLaw_nil : SubscriptionsLaw [] := ⟨List.Pairwise.nil, nofun, nofun, nofun⟩

/-! ### What a command can do to the table -/

/-- All that a command can do to the subscription table: leave it alone, empty it, in a reset or a HELLO, take an entry that
passes the seven checks, remove an id, or evaluate it against the results of a completion. -/
inductive SubsEffect (s t : State) : Prop
  | kept (subs : t.subs = s.subs)
  | emptied (subs : t.subs = [])
  | subscribed (body : List Byte) (e : Subscription) (passes : subscribeOperands s.subs body = .ok e)
      (subs : t.subs = insertSubscription e s.subs)
  | unsubscribed (id : Nat) (subs : t.subs = removeSubscription id s.subs)
  | evaluated (u : State) (subs : t.subs = s.subs.map fun e => (e.step (.ofFn u.newResult)).1)

theorem SubsEffect.subscriptionsLaw {s t : State} (effect : SubsEffect s t) (h : SubscriptionsLaw s.subs) :
    SubscriptionsLaw t.subs := by
  cases effect with
  | kept subs => rwa [subs]
  | emptied subs => rw [subs]; exact subscriptionsLaw_nil
  | subscribed body e passes subs =>
    obtain ⟨hnew, hid, hcond, heval⟩ := subscribeOperands_law passes
    rw [subs]
    exact subscriptionsLaw_insert h hnew hid hcond heval
  | unsubscribed id subs => rw [subs]; exact subscriptionsLaw_remove id h
  | evaluated u subs => rw [subs]; exact subscriptionsLaw_evaluated u h

theorem subsEffect_whileRunning {f : State → State} {s : State} (h : SubsEffect s (f s)) :
    SubsEffect s (s.whileRunning f) := by
  unfold State.whileRunning
  split_ifs
  · exact h
  · exact .kept rfl

/-! ### Requests -/

/-- The table, which is all an effect speaks of, is as before the frame was taken. -/
theorem subsEffect_execute {k : RequestKind} {own : Frame → State → State} {s : State}
    (h : ∀ f, SubsEffect s (own f s.takeHead)) : SubsEffect s (s.execute k own) := by
  rcases execute_cases k own s with he | ⟨f, -, -, ⟨-, he⟩ | ⟨r, -, he⟩⟩ <;> rw [he]
  · exact .kept rfl
  · exact h f
  · exact .kept rfl

/-- A request whose own part leaves the table alone. -/
theorem subsEffect_execute_of_kept {k : RequestKind} {own : Frame → State → State} (h : ∀ f u, (own f u).subs = u.subs)
    (s : State) : SubsEffect s (s.execute k own) :=
  subsEffect_execute fun f => .kept (h f s.takeHead)

@[simp] theorem renewAlert_subs (s : State) : s.renewAlert.subs = s.subs := by
  unfold State.renewAlert; split_ifs <;> rfl

@[simp] theorem ownStage_subs (f : Frame) (s : State) : (ownStage f s).subs = s.subs := by
  unfold ownStage; split
  · rfl
  · dsimp only; split_ifs <;> rfl

@[simp] theorem ownSeal_subs (f : Frame) (s : State) : (ownSeal f s).subs = s.subs := by
  unfold ownSeal; split
  · rfl
  · dsimp only; split_ifs <;> simp

@[simp] theorem ownReadConfig_subs (f : Frame) (s : State) : (ownReadConfig f s).subs = s.subs := by
  unfold ownReadConfig; split <;> rfl

@[simp] theorem ownStart_subs (f : Frame) (s : State) : (ownStart f s).subs = s.subs := by
  unfold ownStart; split <;> rfl

@[simp] theorem ownStop_subs (f : Frame) (s : State) : (ownStop f s).subs = s.subs := by
  unfold ownStop; dsimp only
  rcases stopRun_cases s with h | h | h <;> simp [h]

@[simp] theorem ownAbort_subs (f : Frame) (s : State) : (ownAbort f s).subs = s.subs := by
  unfold ownAbort; dsimp only
  rcases abortRun_cases s with h | h | h <;> simp [h]

@[simp] theorem ownRetrack_subs (f : Frame) (s : State) : (ownRetrack f s).subs = s.subs := by
  unfold ownRetrack; split <;> simp

@[simp] theorem ownReadTracker_subs (f : Frame) (s : State) : (ownReadTracker f s).subs = s.subs := by
  unfold ownReadTracker; split <;> rfl

@[simp] theorem ownReadResults_subs (f : Frame) (s : State) : (ownReadResults f s).subs = s.subs := by
  unfold ownReadResults; split <;> rfl

@[simp] theorem ownListSubscriptions_subs (f : Frame) (s : State) : (ownListSubscriptions f s).subs = s.subs := by
  unfold ownListSubscriptions; split
  · split_ifs <;> rfl
  · rfl

@[simp] theorem ownGrant_subs (f : Frame) (s : State) : (ownGrant f s).subs = s.subs := by
  unfold ownGrant; split
  · split_ifs <;> rfl
  · rfl

@[simp] theorem ownAckAlerts_subs (f : Frame) (s : State) : (ownAckAlerts f s).subs = s.subs := by
  unfold ownAckAlerts; dsimp only; split <;> simp

@[simp] theorem ownReadAlerts_subs (f : Frame) (s : State) : (ownReadAlerts f s).subs = s.subs := by
  unfold ownReadAlerts; split
  · split_ifs <;> rfl
  · rfl

@[simp] theorem executeUnknown_subs (s : State) : s.executeUnknown.subs = s.subs := by
  rcases executeUnknown_cases s with h | ⟨f, -, -, h⟩ <;> rw [h]; rfl

@[simp] theorem answerDuplicate_subs (s : State) : s.answerDuplicate.subs = s.subs := by
  rcases answerDuplicate_cases s with h | ⟨f, m, -, -, -, h⟩ <;> rw [h]

/-- A session begins with an empty table. -/
theorem subsEffect_hello (f : Frame) (s : State) : SubsEffect s (ownHello f s.takeHead) := by
  unfold ownHello
  split
  · exact .kept rfl
  · exact .emptied (renewAlert_subs _)

theorem subsEffect_subscribe (f : Frame) (s : State) : SubsEffect s (ownSubscribe f s.takeHead) := by
  unfold ownSubscribe
  split
  · exact .kept rfl
  · next e he => exact .subscribed f.body e he rfl

theorem subsEffect_unsubscribe (f : Frame) (s : State) : SubsEffect s (ownUnsubscribe f s.takeHead) := by
  unfold ownUnsubscribe
  split
  · next id _ =>
    split_ifs
    · exact .unsubscribed id.toNat rfl
    · exact .kept rfl
  · exact .kept rfl

/-! ### Events of the link -/

@[simp] theorem timeoutFrame_subs (s : State) : s.timeoutFrame.subs = s.subs := latch_subs ..

@[simp] theorem lengthFault_subs (s : State) : s.lengthFault.subs = s.subs := latch_subs ..

@[simp] theorem arrival_subs (f : RxFrame) (high low : Byte) (s : State) : (s.arrival f high low).subs = s.subs := by
  unfold State.arrival; split_ifs
  · exact latch_subs ..
  · rfl
  · exact latch_subs ..

@[simp] theorem receiveByte_subs (b : Byte) (s : State) : (s.receiveByte b).subs = s.subs := by
  unfold State.receiveByte; dsimp only
  cases s.link.rxState with
  | inactive | wakeListen | wakeQuiet | body => rfl
  | hunt | sync => dsimp only; split_ifs <;> rfl
  | header =>
    dsimp only [State.headerByte]; split
    · split_ifs <;> simp
    · rfl
    · rfl
  | check => dsimp only [State.checkByte]; split <;> simp

@[simp] theorem receiveCharacter_subs (ch : Character) (s : State) : (s.receiveCharacter ch).subs = s.subs := by
  unfold State.receiveCharacter; split_ifs
  · rfl
  · cases ch with
    | byte b => simp
    | framingError late => dsimp only [State.framingError]; split_ifs <;> simp

@[simp] theorem characterTimesOut_subs (s : State) : s.characterTimesOut.subs = s.subs := by
  unfold State.characterTimesOut; split_ifs <;> simp

@[simp] theorem takeStartBit_subs (s : State) : s.takeStartBit.subs = s.subs := by
  unfold State.takeStartBit; split_ifs
  · rfl
  · split <;> rfl

theorem subsEffect_receiveBreak (rate : Level) (s : State) : SubsEffect s (s.receiveBreak rate) := by
  unfold State.receiveBreak
  split_ifs
  · exact .kept rfl
  all_goals dsimp only; split_ifs
  · exact .emptied rfl
  · exact .kept rfl
  · exact .emptied rfl
  · exact .kept rfl

theorem subsEffect_endTransmission (rate : Level) (s : State) : SubsEffect s (s.endTransmission rate) := by
  unfold State.endTransmission
  split
  · exact .kept rfl
  · dsimp only
    split_ifs
    · exact .emptied rfl
    · exact .kept rfl

/-! ### Resets -/

theorem subsEffect_powerOn (resetN rate : Level) (s : State) : SubsEffect s (s.powerOn resetN rate) := by
  cases resetN <;> exact .emptied rfl

theorem subsEffect_resetNLow (s : State) : SubsEffect s s.resetNLow := by
  unfold State.resetNLow
  split
  · exact .kept rfl
  · exact .emptied rfl
  · exact .emptied rfl

@[simp] theorem resetNHigh_subs (rate : Level) (s : State) : (s.resetNHigh rate).subs = s.subs := by
  unfold State.resetNHigh; split <;> rfl

@[simp] theorem endStartUp_subs (s : State) : s.endStartUp.subs = s.subs := by
  unfold State.endStartUp; split <;> rfl

/-! ### Events of the scan engine -/

@[simp] theorem overrun_subs (s : State) : s.overrun.subs = s.subs := latch_subs ..

@[simp] theorem missTrigger_subs (s : State) : s.missTrigger.subs = s.subs := latch_subs ..

@[simp] theorem overcurrent_subs (g : Group) (s : State) : (s.overcurrent g).subs = s.subs := by
  unfold State.overcurrent; split_ifs <;> simp

@[simp] theorem armingSettled_subs (s : State) : s.armingSettled.subs = s.subs := by
  unfold State.armingSettled; split
  · dsimp only; split <;> simp
  · rfl

@[simp] theorem wakeSettled_subs (s : State) : s.wakeSettled.subs = s.subs := by
  unfold State.wakeSettled; split <;> simp

@[simp] theorem onExpiry_subs (s : State) : s.onExpiry.subs = s.subs := by
  unfold State.onExpiry; split <;> simp

@[simp] theorem timerExpires_subs (s : State) : s.timerExpires.subs = s.subs := by
  unfold State.timerExpires; split <;> simp

@[simp] theorem onTrigger_subs (s : State) : s.onTrigger.subs = s.subs := by
  unfold State.onTrigger; split
  · rfl
  · split <;> simp

@[simp] theorem takeTrigger_subs (s : State) : s.takeTrigger.subs = s.subs := by
  unfold State.takeTrigger; split <;> simp

/-! ### Conversions -/

/-- A completion evaluates the table, and what follows it leaves the table alone (R104). -/
theorem completeScan_subs (choice : Option Nat) (s : State) :
    (s.completeScan choice).subs = s.subs.map fun e => (e.step (.ofFn s.newResult)).1 := by
  rw [completeScan_eq]
  split_ifs <;> simp

theorem subsEffect_endSlot (choice : Option Nat) (sl : SlotInFlight) {s u : State} (hu : u.subs = s.subs) :
    SubsEffect s (u.endSlot choice sl) := by
  unfold State.endSlot
  dsimp only
  split
  · exact .kept hu
  · exact .evaluated _ ((completeScan_subs choice _).trans (by rw [← hu]))

theorem subsEffect_conversionEnds (code : BitVec 24) (senseGood : Bool) (choice : Option Nat) (s : State) :
    SubsEffect s (s.conversionEnds code senseGood choice) := by
  unfold State.conversionEnds
  split
  · exact .kept rfl
  · split_ifs
    · unfold State.endConversion
      dsimp only
      split
      · exact .kept rfl
      · exact subsEffect_endSlot choice _ rfl
    · exact .kept rfl

/-! ### Every command -/

/-- What a command can do to the subscription table, command by command. -/
theorem exec_subsEffect {c : Instr} {s t : State} (h : exec c s = .next t) : SubsEffect s t := by
  cases c <;> obtain rfl := Host.Outcome.next.inj h
  case hello => exact subsEffect_execute fun f => subsEffect_hello f s
  case getState => exact subsEffect_execute_of_kept (own := ownGetState) (fun f u => rfl) s
  case reset => exact subsEffect_execute_of_kept (own := ownReset) (fun f u => rfl) s
  case stage => exact subsEffect_execute_of_kept ownStage_subs s
  case discard => exact subsEffect_execute_of_kept (own := ownDiscard) (fun f u => rfl) s
  case readConfig => exact subsEffect_execute_of_kept ownReadConfig_subs s
  case start => exact subsEffect_execute_of_kept ownStart_subs s
  case stop => exact subsEffect_execute_of_kept ownStop_subs s
  case abort => exact subsEffect_execute_of_kept ownAbort_subs s
  case retrack => exact subsEffect_execute_of_kept ownRetrack_subs s
  case readTracker => exact subsEffect_execute_of_kept ownReadTracker_subs s
  case readResults => exact subsEffect_execute_of_kept ownReadResults_subs s
  case subscribe => exact subsEffect_execute fun f => subsEffect_subscribe f s
  case unsubscribe => exact subsEffect_execute fun f => subsEffect_unsubscribe f s
  case listSubscriptions => exact subsEffect_execute_of_kept ownListSubscriptions_subs s
  case grant => exact subsEffect_execute_of_kept ownGrant_subs s
  case ackAlerts => exact subsEffect_execute_of_kept ownAckAlerts_subs s
  case readAlerts => exact subsEffect_execute_of_kept ownReadAlerts_subs s
  case readCounters => exact subsEffect_execute_of_kept (own := ownReadCounters) (fun f u => rfl) s
  case unknownKind => exact .kept (executeUnknown_subs s)
  case duplicate => exact .kept (answerDuplicate_subs s)
  case frameArrival b =>
    refine subsEffect_whileRunning (.kept ?_)
    split_ifs <;> simp
  case lengthError b =>
    refine subsEffect_whileRunning (.kept ?_)
    split_ifs <;> simp
  case characterTimeout => exact subsEffect_whileRunning (.kept (characterTimesOut_subs s))
  case breakDetected rate => exact subsEffect_whileRunning (subsEffect_receiveBreak rate s)
  case breakEnd => exact subsEffect_whileRunning (.kept rfl)
  case wake => exact subsEffect_whileRunning (.kept (takeStartBit_subs s))
  case wakeQuietEnd =>
    refine subsEffect_whileRunning (.kept ?_)
    split_ifs <;> rfl
  case arbiterChoice => exact .kept (arbiter_subs s)
  case transmitEnd rate => exact subsEffect_whileRunning (subsEffect_endTransmission rate s)
  case powerOn resetN rate => exact subsEffect_powerOn resetN rate s
  case resetNLow => exact subsEffect_resetNLow s
  case resetNHigh rate => exact .kept (resetNHigh_subs rate s)
  case startUpEnd => exact .kept (endStartUp_subs s)
  case armingSettleEnd => exact subsEffect_whileRunning (.kept (armingSettled_subs s))
  case timerExpiry => exact subsEffect_whileRunning (.kept (timerExpires_subs s))
  case trigEdge direction => exact subsEffect_whileRunning (.kept rfl)
  case trigger => exact subsEffect_whileRunning (.kept (takeTrigger_subs s))
  case wakeSettleEnd => exact subsEffect_whileRunning (.kept (wakeSettled_subs s))
  case syncPulseEnd => exact subsEffect_whileRunning (.kept rfl)
  case conversionEnd code senseGood choice =>
    exact subsEffect_whileRunning (subsEffect_conversionEnds code senseGood choice s)
  case dozeEntry =>
    refine subsEffect_whileRunning (.kept ?_)
    split_ifs <;> rfl
  case overcurrent g => exact subsEffect_whileRunning (.kept (overcurrent_subs g s))
  case characterReceived ch => exact subsEffect_whileRunning (.kept (receiveCharacter_subs ch s))
  -- SEAL is left, whose constructor's name is a word of Lean and cannot stand after `case`.
  · exact subsEffect_execute_of_kept ownSeal_subs s

/-- Settles O58: every effect of a command on the table keeps the law. -/
theorem subscriptionsLawKept : Obligations.SubscriptionsLawKept := by
  intro s t h hstep
  unfold step at hstep
  split at hstep
  · cases hstep; exact h
  · exact (exec_subsEffect hstep).subscriptionsLaw h

end Sys2Proof.Machine
end

section
/-! PROOFS. The report side (R117 to R124, R127, R128): an arrival and a loss, what every command can do to it, and from that its
laws and the rule that nothing of it departs without a credit. -/

namespace Sys2Proof.Machine

/-! ### Arrivals and losses -/

theorem arrive_of_room (r : ReportRecord) {q : ReportSide} (h : q.queue.length < 48) :
    q.arrive r =
      { q with
        queue := q.queue ++ [.report r]
        counters := { q.counters with created := q.counters.created + 1 } } := by
  unfold ReportSide.arrive
  rw [if_neg (mt (full_iff q).1 (Nat.not_le_of_gt h))]

theorem arrive_of_full (r : ReportRecord) {q : ReportSide} (h : 48 ≤ q.queue.length) :
    q.arrive r = ({ q with counters := { q.counters with created := q.counters.created + 1 } } : ReportSide).overflow r := by
  unfold ReportSide.arrive
  rw [if_pos ((full_iff q).2 h)]

/-- Settles O46: by whether the queue has room, and where it has none by the policy. -/
theorem arrivalsAndLosses : Obligations.ArrivalsAndLosses := by
  rintro s r created rfl
  refine ⟨fun hroom => ?_, fun hfull hpolicy => ?_, fun oldest rest hqueue hfull hpolicy => ?_⟩ <;> rw [arrive_eq_latched]
  · rw [if_neg (mt (full_iff s.report).1 (Nat.not_le_of_gt hroom)), latched_nil, arrive_of_room r hroom]
  · rw [if_pos ((full_iff s.report).2 hfull), arrive_of_full r hfull]
    simp only [ReportSide.overflow, hpolicy]
    cases s.report.tally <;> rfl
  · rw [if_pos ((full_iff s.report).2 hfull), arrive_of_full r hfull]
    simp only [ReportSide.overflow, hpolicy, hqueue]
    cases s.report.tally <;> rfl

/-! ### Arrivals one after another -/

/-- Records reach the report side one after another (R118). -/
def ReportSide.arriveEach (rs : List ReportRecord) (q : ReportSide) : ReportSide := rs.foldl (fun q r => q.arrive r) q

@[simp] theorem arriveEach_report (rs : List ReportRecord) (s : State) :
    (s.arriveEach rs).report = s.report.arriveEach rs := by
  rw [arriveEach_eq_latched]; rfl

/-- What holds before arrivals and is kept by each holds after them. -/
theorem ReportSide.arriveEach_induction {p : ReportSide → Prop} (arrives : ∀ r q, p q → p (q.arrive r))
    (rs : List ReportRecord) {q : ReportSide} (h : p q) : p (q.arriveEach rs) := by
  induction rs generalizing q with
  | nil => exact h
  | cons r rest ih => exact ih (arrives r q h)

/-- What an arrival cannot change: the credits, and the counts of what was sent. -/
structure ReportSide.SameSent (q q' : ReportSide) : Prop where
  credits : q'.credits = q.credits
  sent : q'.counters.sent = q.counters.sent
  gapsSent : q'.counters.gapsSent = q.counters.gapsSent

theorem sameSent_overflow (r : ReportRecord) (q : ReportSide) : q.SameSent (q.overflow r) := by
  unfold ReportSide.overflow
  split
  · exact ⟨rfl, rfl, rfl⟩
  · split <;> exact ⟨rfl, rfl, rfl⟩

theorem sameSent_arrive (r : ReportRecord) (q : ReportSide) : q.SameSent (q.arrive r) := by
  unfold ReportSide.arrive
  dsimp only
  split_ifs
  · obtain ⟨hcredits, hsent, hgaps⟩ := sameSent_overflow r
      ({ q with counters := { q.counters with created := q.counters.created + 1 } } : ReportSide)
    exact ⟨hcredits, hsent, hgaps⟩
  · exact ⟨rfl, rfl, rfl⟩

theorem sameSent_arriveEach (rs : List ReportRecord) (q : ReportSide) : q.SameSent (q.arriveEach rs) :=
  ReportSide.arriveEach_induction
    (fun r q' h => have h' := sameSent_arrive r q'
      ⟨h'.credits.trans h.credits, h'.sent.trans h.sent, h'.gapsSent.trans h.gapsSent⟩) rs ⟨rfl, rfl, rfl⟩

@[simp] theorem depart_credits (o : Offer) (q : ReportSide) : (q.depart o).credits = q.credits - 1 := by
  unfold ReportSide.depart
  split
  · rfl
  · dsimp only; split <;> rfl

/-! ### The law and the account, operation by operation -/

/-- What every step keeps of the report side (R117, R121, R122, R128). -/
def ReportLaw (q : ReportSide) : Prop := QueueLaw q ∧ Account q

theorem reportLaw_reset : ReportLaw .reset := ⟨queueLaw_reset, rfl⟩

theorem reportLaw_arriveEach (rs : List ReportRecord) {q : ReportSide} (h : ReportLaw q) : ReportLaw (q.arriveEach rs) :=
  ReportSide.arriveEach_induction (fun r _ h => ⟨queueLaw_arrive r h.1, account_arrive r h.1 h.2⟩) rs h

theorem reportLaw_depart {q : ReportSide} {o : Offer} (ho : q.offer = some o) (h : ReportLaw q) : ReportLaw (q.depart o) :=
  ⟨queueLaw_depart ho h.1, account_depart ho h.2⟩

theorem reportLaw_reopen {q : ReportSide} {policy : Policy} {credits : Nat} (hc : credits ≤ 255) (h : ReportLaw q) :
    ReportLaw (q.reopen policy credits) :=
  ⟨queueLaw_reopen hc, account_reopen h.2⟩

/-- A GRANT changes the credits alone, and holds them at 255 (R122). -/
theorem reportLaw_grant {q : ReportSide} (n : Nat) (h : ReportLaw q) :
    ReportLaw { q with credits := grantedCredits q.credits n } := by
  obtain ⟨hqueue, haccount⟩ := h
  exact ⟨⟨hqueue.length, hqueue.tallyFull, hqueue.tally, hqueue.gaps, Nat.min_le_left _ _⟩, haccount⟩

/-! ### What a command can do to the report side -/

/-- No candidate stands before the notices of alerts and reports, and the line is free for one (R159). -/
structure LineFree (l : Link) : Prop where
  replies : l.replies = []
  transmitter : l.transmitter = .idle
  readyNotice : l.readyNotice = none
  rxdLow : l.rxdLow = false

/-- All that a command can do to the report side: leave it alone, give it its reset values, open a session, grant credits, let
records arrive, or begin what it offers, with arrivals before and after. -/
inductive ReportEffect (s t : State) : Prop
  | kept (report : t.report = s.report)
  | reset (phase : t.phase ≠ .running) (report : t.report = .reset)
  | reopened (policy : Policy) (credits : Nat) (bound : credits ≤ 255) (report : t.report = s.report.reopen policy credits)
  | granted (n : Nat) (report : t.report = { s.report with credits := grantedCredits s.report.credits n })
  | arrived (rs : List ReportRecord) (report : t.report = s.report.arriveEach rs)
  | departed (before after : List ReportRecord) (o : Offer) (free : LineFree s.link)
      (offer : (s.report.arriveEach before).offer = some o)
      (report : t.report = ((s.report.arriveEach before).depart o).arriveEach after)

theorem ReportEffect.reportLaw {s t : State} (effect : ReportEffect s t) (h : ReportLaw s.report) :
    ReportLaw t.report := by
  cases effect with
  | kept report => rwa [report]
  | reset _ report => rw [report]; exact reportLaw_reset
  | reopened policy credits bound report => rw [report]; exact reportLaw_reopen bound h
  | granted n report => rw [report]; exact reportLaw_grant n h
  | arrived rs report => rw [report]; exact reportLaw_arriveEach rs h
  | departed before after o _ offer report =>
    rw [report]
    exact reportLaw_arriveEach after (reportLaw_depart offer (reportLaw_arriveEach before h))

/-- Only a departure counts a notice as sent, and it spends one of the credits that the command found. -/
theorem ReportEffect.of_sent {s t : State} (effect : ReportEffect s t) (hrun : t.phase = .running)
    (hsent : t.report.counters.sent ≠ s.report.counters.sent ∨
      t.report.counters.gapsSent ≠ s.report.counters.gapsSent) :
    LineFree s.link ∧ 1 ≤ s.report.credits ∧ t.report.credits = s.report.credits - 1 := by
  have same (hsame : s.report.SameSent t.report) : False := hsent.elim (· hsame.sent) (· hsame.gapsSent)
  cases effect with
  | kept report => rw [report] at hsent; simp at hsent
  | reset phase _ => exact absurd hrun phase
  | reopened policy credits bound report => rw [report] at hsent; simp [ReportSide.reopen] at hsent
  | granted n report => rw [report] at hsent; simp at hsent
  | arrived rs report => exact (same (report ▸ sameSent_arriveEach rs s.report)).elim
  | departed before after o free offer report =>
    have hbefore := (sameSent_arriveEach before s.report).credits
    refine ⟨free, ?_, ?_⟩
    · rw [← hbefore]; exact (offer_cases offer).1
    · rw [report, (sameSent_arriveEach after _).credits, depart_credits, hbefore]

theorem reportEffect_whileRunning {f : State → State} {s : State} (h : ReportEffect s (f s)) :
    ReportEffect s (s.whileRunning f) := by
  unfold State.whileRunning
  split_ifs
  · exact h
  · exact .kept rfl

/-! ### Requests -/

/-- The report side, which is all these effects speak of, is as before the frame was taken. -/
theorem reportEffect_execute {k : RequestKind} {own : Frame → State → State} {s : State}
    (h : ∀ f, ReportEffect s (own f s.takeHead)) : ReportEffect s (s.execute k own) := by
  rcases execute_cases k own s with he | ⟨f, -, -, ⟨-, he⟩ | ⟨r, -, he⟩⟩ <;> rw [he]
  · exact .kept rfl
  · exact h f
  · exact .kept rfl

/-- A request whose own part leaves the report side alone. -/
theorem reportEffect_execute_of_kept {k : RequestKind} {own : Frame → State → State}
    (h : ∀ f u, (own f u).report = u.report) (s : State) : ReportEffect s (s.execute k own) :=
  reportEffect_execute fun f => .kept (h f s.takeHead)

@[simp] theorem renewAlert_report (s : State) : s.renewAlert.report = s.report := by
  unfold State.renewAlert; split_ifs <;> rfl

@[simp] theorem ownStage_report (f : Frame) (s : State) : (ownStage f s).report = s.report := by
  unfold ownStage; split
  · rfl
  · dsimp only; split_ifs <;> rfl

@[simp] theorem ownSeal_report (f : Frame) (s : State) : (ownSeal f s).report = s.report := by
  unfold ownSeal; split
  · rfl
  · dsimp only; split_ifs <;> simp

@[simp] theorem ownReadConfig_report (f : Frame) (s : State) : (ownReadConfig f s).report = s.report := by
  unfold ownReadConfig; split <;> rfl

@[simp] theorem ownStart_report (f : Frame) (s : State) : (ownStart f s).report = s.report := by
  unfold ownStart; split <;> rfl

@[simp] theorem ownStop_report (f : Frame) (s : State) : (ownStop f s).report = s.report := by
  unfold ownStop; dsimp only
  rcases stopRun_cases s with h | h | h <;> simp [h]

@[simp] theorem ownAbort_report (f : Frame) (s : State) : (ownAbort f s).report = s.report := by
  unfold ownAbort; dsimp only
  rcases abortRun_cases s with h | h | h <;> simp [h]

@[simp] theorem ownRetrack_report (f : Frame) (s : State) : (ownRetrack f s).report = s.report := by
  unfold ownRetrack; split <;> simp

@[simp] theorem ownReadTracker_report (f : Frame) (s : State) : (ownReadTracker f s).report = s.report := by
  unfold ownReadTracker; split <;> rfl

@[simp] theorem ownReadResults_report (f : Frame) (s : State) : (ownReadResults f s).report = s.report := by
  unfold ownReadResults; split <;> rfl

@[simp] theorem ownSubscribe_report (f : Frame) (s : State) : (ownSubscribe f s).report = s.report := by
  unfold ownSubscribe; split <;> rfl

@[simp] theorem ownUnsubscribe_report (f : Frame) (s : State) : (ownUnsubscribe f s).report = s.report := by
  unfold ownUnsubscribe; split
  · split_ifs <;> rfl
  · rfl

@[simp] theorem ownListSubscriptions_report (f : Frame) (s : State) : (ownListSubscriptions f s).report = s.report := by
  unfold ownListSubscriptions; split
  · split_ifs <;> rfl
  · rfl

@[simp] theorem ownAckAlerts_report (f : Frame) (s : State) : (ownAckAlerts f s).report = s.report := by
  unfold ownAckAlerts; dsimp only; split <;> simp

@[simp] theorem ownReadAlerts_report (f : Frame) (s : State) : (ownReadAlerts f s).report = s.report := by
  unfold ownReadAlerts; split
  · split_ifs <;> rfl
  · rfl

@[simp] theorem executeUnknown_report (s : State) : s.executeUnknown.report = s.report := by
  rcases executeUnknown_cases s with h | ⟨f, -, -, h⟩ <;> rw [h]; rfl

@[simp] theorem answerDuplicate_report (s : State) : s.answerDuplicate.report = s.report := by
  rcases answerDuplicate_cases s with h | ⟨f, m, -, -, -, h⟩ <;> rw [h]

/-- A HELLO that is not refused names at most 255 credits (R176). -/
theorem helloOperands_credits {body : List Byte} {policy : Policy} {credits : Nat}
    (h : helloOperands body = .ok (policy, credits)) : credits ≤ 255 := by
  unfold helloOperands at h
  split at h
  · split at h
    · cases h
    · split_ifs at h with hc
      cases h
      exact Nat.le_of_not_lt hc
  · cases h

/-- A session begins with an empty queue and the credits it names (R127). -/
theorem reportEffect_hello (f : Frame) (s : State) : ReportEffect s (ownHello f s.takeHead) := by
  unfold ownHello
  split
  · exact .kept rfl
  · next policy credits hops => exact .reopened policy credits (helloOperands_credits hops) (renewAlert_report _)

theorem reportEffect_grant (f : Frame) (s : State) : ReportEffect s (ownGrant f s.takeHead) := by
  unfold ownGrant
  split
  · next n _ =>
    split_ifs
    · exact .kept rfl
    · exact .granted n.toNat rfl
  · exact .kept rfl

/-! ### Events of the link -/

@[simp] theorem timeoutFrame_report (s : State) : s.timeoutFrame.report = s.report := latch_report ..

@[simp] theorem lengthFault_report (s : State) : s.lengthFault.report = s.report := latch_report ..

@[simp] theorem arrival_report (f : RxFrame) (high low : Byte) (s : State) :
    (s.arrival f high low).report = s.report := by
  unfold State.arrival; split_ifs
  · exact latch_report ..
  · rfl
  · exact latch_report ..

@[simp] theorem receiveByte_report (b : Byte) (s : State) : (s.receiveByte b).report = s.report := by
  unfold State.receiveByte; dsimp only
  cases s.link.rxState with
  | inactive | wakeListen | wakeQuiet | body => rfl
  | hunt | sync => dsimp only; split_ifs <;> rfl
  | header =>
    dsimp only [State.headerByte]; split
    · split_ifs <;> simp
    · rfl
    · rfl
  | check => dsimp only [State.checkByte]; split <;> simp

@[simp] theorem receiveCharacter_report (ch : Character) (s : State) : (s.receiveCharacter ch).report = s.report := by
  unfold State.receiveCharacter; split_ifs
  · rfl
  · cases ch with
    | byte b => simp
    | framingError late => dsimp only [State.framingError]; split_ifs <;> simp

@[simp] theorem characterTimesOut_report (s : State) : s.characterTimesOut.report = s.report := by
  unfold State.characterTimesOut; split_ifs <;> simp

@[simp] theorem takeStartBit_report (s : State) : s.takeStartBit.report = s.report := by
  unfold State.takeStartBit; split_ifs
  · rfl
  · split <;> rfl

/-- The reset that a RESET request asks for: start-up follows it (R162, R184). -/
theorem reportEffect_requestedReset (rate : Level) (s t : State) : ReportEffect s (t.requestedReset rate) :=
  .reset nofun rfl

theorem reportEffect_receiveBreak (rate : Level) (s : State) : ReportEffect s (s.receiveBreak rate) := by
  unfold State.receiveBreak
  split_ifs
  · exact .kept rfl
  all_goals dsimp only; split_ifs
  · exact reportEffect_requestedReset rate s _
  · exact .kept rfl
  · exact reportEffect_requestedReset rate s _
  · exact .kept rfl

theorem reportEffect_endTransmission (rate : Level) (s : State) : ReportEffect s (s.endTransmission rate) := by
  unfold State.endTransmission
  split
  · exact .kept rfl
  · dsimp only
    split_ifs
    · exact reportEffect_requestedReset rate s _
    · exact .kept rfl

/-- The report side's offer is a candidate where no other is (R159). -/
theorem candidate_eq_report {s : State} {o : Offer} (h : s.candidate = some (.report o)) :
    s.link.replies = [] ∧ s.link.readyNotice = none ∧ s.report.offer = some o := by
  unfold State.candidate at h
  split at h
  · cases h
  · next hreplies =>
    split at h
    · cases h
    · next hready =>
      split_ifs at h
      · cases h
      · exact ⟨hreplies, hready, by simpa using h⟩

/-- The arbiter leaves the report side alone, or begins what it offers (R124, R159). -/
theorem arbiter_report_cases (s : State) :
    s.arbiter.report = s.report ∨
      ∃ o, LineFree s.link ∧ s.report.offer = some o ∧ s.arbiter.report = s.report.depart o := by
  rcases arbiter_cases s with h | ⟨c, -, hidle, hrxd, hcandidate, h⟩
  · exact .inl (by rw [h])
  · cases c with
    | reply r | ready cause | alert => exact .inl (by rw [h]; rfl)
    | report o =>
      obtain ⟨hreplies, hready, hoffer⟩ := candidate_eq_report hcandidate
      exact .inr ⟨o, ⟨hreplies, hidle, hready, hrxd⟩, hoffer, by rw [h]; rfl⟩

theorem reportEffect_arbiter (s : State) : ReportEffect s s.arbiter := by
  rcases arbiter_report_cases s with h | ⟨o, hfree, hoffer, h⟩
  · exact .kept h
  · exact .departed [] [] o hfree hoffer h

/-! ### Resets -/

theorem reportEffect_powerOn (resetN rate : Level) (s : State) : ReportEffect s (s.powerOn resetN rate) := by
  cases resetN <;> exact .reset nofun rfl

theorem reportEffect_resetNLow (s : State) : ReportEffect s s.resetNLow := by
  unfold State.resetNLow
  split
  · exact .kept rfl
  · exact .reset nofun rfl
  · exact .reset nofun rfl

@[simp] theorem resetNHigh_report (rate : Level) (s : State) : (s.resetNHigh rate).report = s.report := by
  unfold State.resetNHigh; split <;> rfl

@[simp] theorem endStartUp_report (s : State) : s.endStartUp.report = s.report := by
  unfold State.endStartUp; split <;> rfl

/-! ### Events of the scan engine -/

@[simp] theorem overrun_report (s : State) : s.overrun.report = s.report := latch_report ..

@[simp] theorem missTrigger_report (s : State) : s.missTrigger.report = s.report := latch_report ..

@[simp] theorem overcurrent_report (g : Group) (s : State) : (s.overcurrent g).report = s.report := by
  unfold State.overcurrent; split_ifs <;> simp

@[simp] theorem armingSettled_report (s : State) : s.armingSettled.report = s.report := by
  unfold State.armingSettled; split
  · dsimp only; split <;> simp
  · rfl

@[simp] theorem wakeSettled_report (s : State) : s.wakeSettled.report = s.report := by
  unfold State.wakeSettled; split <;> simp

@[simp] theorem onExpiry_report (s : State) : s.onExpiry.report = s.report := by
  unfold State.onExpiry; split <;> simp

@[simp] theorem timerExpires_report (s : State) : s.timerExpires.report = s.report := by
  unfold State.timerExpires; split <;> simp

@[simp] theorem onTrigger_report (s : State) : s.onTrigger.report = s.report := by
  unfold State.onTrigger; split
  · rfl
  · split <;> simp

@[simp] theorem takeTrigger_report (s : State) : s.takeTrigger.report = s.report := by
  unfold State.takeTrigger; split <;> simp

/-! ### Conversions -/

/-- The arrivals of a completion, with a choice of the arbiter among them or none (R118). -/
theorem arriveAll_cases (choice : Option Nat) (rs : List ReportRecord) (s : State) :
    s.arriveAll choice 0 rs = s.arriveEach rs ∨
      ∃ before after, s.arriveAll choice 0 rs = (s.arriveEach before).arbiter.arriveEach after := by
  by_cases h : ∃ k, choice = some k ∧ 1 ≤ k ∧ k < rs.length
  · obtain ⟨k, rfl, hk, hlt⟩ := h
    exact .inr ⟨rs.take k, rs.drop k, by rw [← arriveAll_of_choice (done := 0) hk hlt, Nat.zero_add]⟩
  · refine .inl (arriveAll_of_no_choice (fun k hk => ?_) s)
    by_contra hbetween
    exact h ⟨k, hk, by omega, by omega⟩

/-- Latches leave what `LineFree` speaks of. -/
theorem lineFree_of_latched {ks : List AlertKey} {s : State} (h : LineFree (latched ks s).link) : LineFree s.link :=
  ⟨h.replies, h.transmitter, h.readyNotice, h.rxdLow⟩

theorem lineFree_of_arriveEach {rs : List ReportRecord} {s : State} (h : LineFree (s.arriveEach rs).link) :
    LineFree s.link := by
  rw [arriveEach_eq_latched] at h
  exact lineFree_of_latched h

theorem reportEffect_arriveAll (choice : Option Nat) (rs : List ReportRecord) (s : State) :
    ReportEffect s (s.arriveAll choice 0 rs) := by
  rcases arriveAll_cases choice rs s with h | ⟨before, after, h⟩ <;> rw [h]
  · exact .arrived rs (arriveEach_report rs s)
  · rcases arbiter_report_cases (s.arriveEach before) with hr | ⟨o, hfree, hoffer, hr⟩
    · refine .arrived (before ++ after) ?_
      simp [hr, ReportSide.arriveEach]
    · refine .departed before after o (lineFree_of_arriveEach hfree) (by simpa using hoffer) ?_
      rw [arriveEach_report, hr, arriveEach_report]

/-- An effect on the report side does not hang on what a command did to the other blocks before it. -/
theorem ReportEffect.after_kept {s u t : State} (h : ReportEffect u t) (hreport : u.report = s.report)
    (hfree : LineFree u.link → LineFree s.link) : ReportEffect s t := by
  cases h with
  | kept report => exact .kept (report.trans hreport)
  | reset phase report => exact .reset phase report
  | reopened policy credits bound report => exact .reopened policy credits bound (hreport ▸ report)
  | granted n report => exact .granted n (hreport ▸ report)
  | arrived rs report => exact .arrived rs (hreport ▸ report)
  | departed before after o free offer report =>
    exact .departed before after o (hfree free) (hreport ▸ offer) (hreport ▸ report)

/-- An effect on the report side does not hang on what a command does to the other blocks after it. -/
theorem ReportEffect.then_kept {s t u : State} (h : ReportEffect s t) (hreport : u.report = t.report)
    (hphase : u.phase = t.phase) : ReportEffect s u := by
  cases h with
  | kept report => exact .kept (hreport.trans report)
  | reset phase report => exact .reset (hphase ▸ phase) (hreport.trans report)
  | reopened policy credits bound report => exact .reopened policy credits bound (hreport.trans report)
  | granted n report => exact .granted n (hreport.trans report)
  | arrived rs report => exact .arrived rs (hreport.trans report)
  | departed before after o free offer report =>
    exact .departed before after o free offer (hreport.trans report)

/-- A completion before its arrivals leaves the report side alone, and what follows them does too (R40, R41). -/
theorem reportEffect_completeScan (choice : Option Nat) (s : State) : ReportEffect s (s.completeScan choice) := by
  have hcompleted : ReportEffect s (s.completed choice) := by
    rw [completed_eq choice s rfl]
    have harrivals := reportEffect_arriveAll choice (recordsMade (.ofFn s.newResult) s.subs)
      (s.completionBegun (.ofFn s.newResult))
    exact (harrivals.then_kept (State.clearScan_report _) (State.clearScan_phase _)).after_kept rfl lineFree_of_latched
  rw [completeScan_eq]
  split_ifs
  · exact hcompleted.then_kept (State.setRunState_report ..) (State.setRunState_phase ..)
  · exact hcompleted.then_kept (enterStandby_report _) (enterStandby_phase _)

theorem reportEffect_endSlot (choice : Option Nat) (sl : SlotInFlight) (s : State) :
    ReportEffect s (s.endSlot choice sl) := by
  unfold State.endSlot
  dsimp only
  split
  · exact .kept rfl
  · exact (reportEffect_completeScan choice _).after_kept rfl id

theorem reportEffect_conversionEnds (code : BitVec 24) (senseGood : Bool) (choice : Option Nat) (s : State) :
    ReportEffect s (s.conversionEnds code senseGood choice) := by
  unfold State.conversionEnds
  split
  · exact .kept rfl
  · split_ifs
    · unfold State.endConversion
      dsimp only
      split
      · exact .kept rfl
      · exact (reportEffect_endSlot choice _ _).after_kept rfl id
    · exact .kept rfl

/-! ### Every command -/

/-- What a command can do to the report side, command by command. -/
theorem exec_reportEffect {c : Instr} {s t : State} (h : exec c s = .next t) : ReportEffect s t := by
  cases c <;> obtain rfl := Host.Outcome.next.inj h
  case hello => exact reportEffect_execute fun f => reportEffect_hello f s
  case getState => exact reportEffect_execute_of_kept (own := ownGetState) (fun f u => rfl) s
  case reset => exact reportEffect_execute_of_kept (own := ownReset) (fun f u => rfl) s
  case stage => exact reportEffect_execute_of_kept ownStage_report s
  case discard => exact reportEffect_execute_of_kept (own := ownDiscard) (fun f u => rfl) s
  case readConfig => exact reportEffect_execute_of_kept ownReadConfig_report s
  case start => exact reportEffect_execute_of_kept ownStart_report s
  case stop => exact reportEffect_execute_of_kept ownStop_report s
  case abort => exact reportEffect_execute_of_kept ownAbort_report s
  case retrack => exact reportEffect_execute_of_kept ownRetrack_report s
  case readTracker => exact reportEffect_execute_of_kept ownReadTracker_report s
  case readResults => exact reportEffect_execute_of_kept ownReadResults_report s
  case subscribe => exact reportEffect_execute_of_kept ownSubscribe_report s
  case unsubscribe => exact reportEffect_execute_of_kept ownUnsubscribe_report s
  case listSubscriptions => exact reportEffect_execute_of_kept ownListSubscriptions_report s
  case grant => exact reportEffect_execute fun f => reportEffect_grant f s
  case ackAlerts => exact reportEffect_execute_of_kept ownAckAlerts_report s
  case readAlerts => exact reportEffect_execute_of_kept ownReadAlerts_report s
  case readCounters => exact reportEffect_execute_of_kept (own := ownReadCounters) (fun f u => rfl) s
  case unknownKind => exact .kept (executeUnknown_report s)
  case duplicate => exact .kept (answerDuplicate_report s)
  case frameArrival b =>
    refine reportEffect_whileRunning (.kept ?_)
    split_ifs <;> simp
  case lengthError b =>
    refine reportEffect_whileRunning (.kept ?_)
    split_ifs <;> simp
  case characterTimeout => exact reportEffect_whileRunning (.kept (characterTimesOut_report s))
  case breakDetected rate => exact reportEffect_whileRunning (reportEffect_receiveBreak rate s)
  case breakEnd => exact reportEffect_whileRunning (.kept rfl)
  case wake => exact reportEffect_whileRunning (.kept (takeStartBit_report s))
  case wakeQuietEnd =>
    refine reportEffect_whileRunning (.kept ?_)
    split_ifs <;> rfl
  case arbiterChoice => exact reportEffect_arbiter s
  case transmitEnd rate => exact reportEffect_whileRunning (reportEffect_endTransmission rate s)
  case powerOn resetN rate => exact reportEffect_powerOn resetN rate s
  case resetNLow => exact reportEffect_resetNLow s
  case resetNHigh rate => exact .kept (resetNHigh_report rate s)
  case startUpEnd => exact .kept (endStartUp_report s)
  case armingSettleEnd => exact reportEffect_whileRunning (.kept (armingSettled_report s))
  case timerExpiry => exact reportEffect_whileRunning (.kept (timerExpires_report s))
  case trigEdge direction => exact reportEffect_whileRunning (.kept rfl)
  case trigger => exact reportEffect_whileRunning (.kept (takeTrigger_report s))
  case wakeSettleEnd => exact reportEffect_whileRunning (.kept (wakeSettled_report s))
  case syncPulseEnd => exact reportEffect_whileRunning (.kept rfl)
  case conversionEnd code senseGood choice =>
    exact reportEffect_whileRunning (reportEffect_conversionEnds code senseGood choice s)
  case dozeEntry =>
    refine reportEffect_whileRunning (.kept ?_)
    split_ifs <;> rfl
  case overcurrent g => exact reportEffect_whileRunning (.kept (overcurrent_report g s))
  case characterReceived ch => exact reportEffect_whileRunning (.kept (receiveCharacter_report ch s))
  -- SEAL is left, whose constructor's name is a word of Lean and cannot stand after `case`.
  · exact reportEffect_execute_of_kept ownSeal_report s

/-- Settles O50: every effect of a command on the report side keeps its law and its account. -/
theorem reportSideLawKept : Obligations.ReportSideLawKept := by
  intro s t hqueue haccount hstep
  unfold step at hstep
  split at hstep
  · cases hstep; exact ⟨hqueue, haccount⟩
  · exact (exec_reportEffect hstep).reportLaw ⟨hqueue, haccount⟩

/-- Settles O51: what counts a notice as sent is a departure, which the arbiter begins on a free line with a credit. -/
theorem noReportWithoutCredit : Obligations.NoReportWithoutCredit := by
  intro c s t hexec _ hrun hsent
  obtain ⟨hfree, hcredit, hspent⟩ := (exec_reportEffect hexec).of_sent hrun hsent
  exact ⟨hcredit, hspent, hfree.replies, hfree.transmitter, hfree.readyNotice, hfree.rxdLow⟩

end Sys2Proof.Machine
end

section
/-! PROOFS. ARBITER_CHOICE: what stands first in the order of candidates begins, with what its departure does to the report side
(R123, R124, R135, R158 to R160). -/

namespace Sys2Proof.Machine

/-! ### What the report side offers (R123) -/

theorem offer_of_no_credits {q : ReportSide} (h : q.credits = 0) : q.offer = none := by
  simp [ReportSide.offer, h]

theorem offer_tallyGap {q : ReportSide} {l : Loss} (hc : 1 ≤ q.credits) (hpolicy : q.policy = .dropOldest)
    (htally : q.tally = some l) : q.offer = some (.tallyGap l) := by
  simp [ReportSide.offer, Nat.ne_of_gt hc, hpolicy, htally]

/-- Where the tally is no candidate, what is offered is the queue's head. -/
theorem offer_head {q : ReportSide} (hc : 1 ≤ q.credits) (h : q.policy = .dropNewest ∨ q.tally = none) :
    q.offer = q.queue.head?.map .head := by
  unfold ReportSide.offer
  rw [if_neg (Nat.ne_of_gt hc)]
  split
  · next hpolicy htally => simp [hpolicy, htally] at h
  · rfl

theorem offer_of_empty {q : ReportSide} (hqueue : q.queue = []) (h : q.policy = .dropNewest ∨ q.tally = none) :
    q.offer = none := by
  rcases Nat.eq_zero_or_pos q.credits with hc | hc
  · exact offer_of_no_credits hc
  · rw [offer_head hc h, hqueue]; rfl

theorem offer_of_cons {q : ReportSide} {e : QueueEntry} {rest : List QueueEntry} (hc : 1 ≤ q.credits)
    (hqueue : q.queue = e :: rest) (h : q.policy = .dropNewest ∨ q.tally = none) : q.offer = some (.head e) := by
  rw [offer_head hc h, hqueue]; rfl

/-! ### What a departure leaves (R124) -/

theorem depart_head_of_no_tally {q : ReportSide} (e : QueueEntry) (htally : q.tally = none) :
    q.depart (.head e) =
      { q with credits := q.credits - 1, queue := q.queue.tail, counters := q.counters.countSent e } := by
  simp only [ReportSide.depart]
  split
  · next htally' => rw [htally] at htally'; cases htally'
  · rfl

/-- Under DROP_NEWEST the place that the head leaves takes the tally. -/
theorem depart_head_of_tally {q : ReportSide} (e : QueueEntry) {l : Loss} (hpolicy : q.policy = .dropNewest)
    (htally : q.tally = some l) :
    q.depart (.head e) =
      { q with
        credits := q.credits - 1
        queue := q.queue.tail ++ [.gap l]
        tally := none
        counters := q.counters.countSent e } := by
  simp only [ReportSide.depart, hpolicy, htally]

theorem beginReport_report (r : ReportRecord) (s : State) :
    s.beginReport (.head (.report r)) =
      noticeBegun 0xC1 (reportBytes r) { s with report := s.report.depart (.head (.report r)) } := by
  rw [← body_eq_reportBytes]; rfl

theorem beginReport_gap (g : Loss) (s : State) :
    s.beginReport (.head (.gap g)) =
      noticeBegun 0xC2 (gapBytes g) { s with report := s.report.depart (.head (.gap g)) } := rfl

theorem beginReport_tallyGap (g : Loss) (s : State) :
    s.beginReport (.tallyGap g) =
      noticeBegun 0xC2 (gapBytes g) { s with report := s.report.depart (.tallyGap g) } := rfl

theorem beginReady_eq (cause : ResetCause) (s : State) :
    s.beginReady cause =
      noticeBegun 0xC0 [cause.code, 0x0B, 0x16, 0x01] { s with link := { s.link with readyNotice := none } } := rfl

theorem beginAlert_eq (s : State) :
    s.beginAlert =
      noticeBegun 0xC3
        (bytes4 s.engine.scanCounter ++ [byteOf s.alerts.entries.length] ++
          s.alerts.entries.flatMap fun e => byteOf e.key.index :: bytes2OfNat e.occurrences)
        { s with link := { s.link with alertNotice := false } } := rfl

/-! ### The order of candidates (R159) -/

section
variable {s : State}

theorem candidate_of_reply {r : Reply} {rest : List Reply} (h : s.link.replies = r :: rest) :
    s.candidate = some (.reply r) := by
  simp [State.candidate, h]

theorem candidate_of_ready {cause : ResetCause} (hreplies : s.link.replies = []) (h : s.link.readyNotice = some cause) :
    s.candidate = some (.ready cause) := by
  simp [State.candidate, hreplies, h]

theorem candidate_of_alert (hreplies : s.link.replies = []) (hready : s.link.readyNotice = none)
    (h : s.link.alertNotice = true) : s.candidate = some .alert := by
  simp [State.candidate, hreplies, hready, h]

theorem candidate_of_offer (hreplies : s.link.replies = []) (hready : s.link.readyNotice = none)
    (halert : s.link.alertNotice = false) : s.candidate = s.report.offer.map .report := by
  simp [State.candidate, hreplies, hready, halert]

theorem exec_arbiterChoice_of_some {c : Choice} (hmay : s.mayTransmit = true) (h : s.candidate = some c) :
    exec .arbiterChoice s = .next (s.beginChoice c) := by
  simp [exec, execArbiterChoice, State.arbiter, hmay, h]

theorem exec_arbiterChoice_of_none (hmay : s.mayTransmit = true) (h : s.candidate = none) :
    exec .arbiterChoice s = .next s := by
  simp [exec, execArbiterChoice, State.arbiter, hmay, h]

end

/-- Settles O32: the candidates in their order, and among those of the report side by policy, tally and head. -/
theorem arbiterChooses : Obligations.ArbiterChooses := by
  intro s hrun hidle hrxd
  have hmay : s.mayTransmit = true := by simp [State.mayTransmit, hrun, hidle, hrxd]
  refine ⟨fun r rest hreplies => ?_,
    fun hreplies => ⟨fun cause hready => ?_, fun hready => ⟨fun halert => ?_, fun halert => ?_⟩⟩⟩
  · rw [exec_arbiterChoice_of_some hmay (candidate_of_reply hreplies)]
    simp only [State.beginChoice, State.beginReply, hreplies, List.tail_cons]
  · rw [exec_arbiterChoice_of_some hmay (candidate_of_ready hreplies hready), ← beginReady_eq]
    rfl
  · rw [exec_arbiterChoice_of_some hmay (candidate_of_alert hreplies hready halert), ← beginAlert_eq]
    rfl
  · have hcandidate := candidate_of_offer hreplies hready halert
    have hnothing (h : s.report.offer = none) : exec .arbiterChoice s = .next s :=
      exec_arbiterChoice_of_none hmay (by rw [hcandidate, h]; rfl)
    have hbegins {o : Offer} (h : s.report.offer = some o) : exec .arbiterChoice s = .next (s.beginReport o) :=
      exec_arbiterChoice_of_some (c := .report o) hmay (by rw [hcandidate, h]; rfl)
    refine ⟨fun hc => hnothing (offer_of_no_credits hc), fun hqueue h => hnothing (offer_of_empty hqueue h),
      fun l hc hpolicy htally => ?_, fun r rest hc hqueue htally => ?_, fun r rest l hc hqueue hpolicy htally => ?_,
      fun g rest hc hqueue htally => ?_, fun g rest l hc hqueue hpolicy htally => ?_⟩
    · rw [hbegins (offer_tallyGap hc hpolicy htally), beginReport_tallyGap]
      rfl
    · rw [hbegins (offer_of_cons hc hqueue (.inr htally)), beginReport_report, depart_head_of_no_tally _ htally, hqueue]
      rfl
    · rw [hbegins (offer_of_cons hc hqueue (.inl hpolicy)), beginReport_report, depart_head_of_tally _ hpolicy htally,
        hqueue]
      rfl
    · rw [hbegins (offer_of_cons hc hqueue (.inr htally)), beginReport_gap, depart_head_of_no_tally _ htally, hqueue]
      rfl
    · rw [hbegins (offer_of_cons hc hqueue (.inl hpolicy)), beginReport_gap, depart_head_of_tally _ hpolicy htally, hqueue]
      rfl

end Sys2Proof.Machine
end

section
/-! PROOFS. The requests of the session and of its credits: HELLO (R127, R138, R176) and GRANT (R122, R175). -/

namespace Sys2Proof.Machine

theorem exec_hello_of_admits {f : Frame} {s : State} (h : Admits .hello f s) :
    exec .hello s = .next (ownHello f s.takeHead) :=
  congrArg Host.Outcome.next (execute_of_admits h)

theorem exec_grant_of_admits {f : Frame} {s : State} (h : Admits .grant f s) :
    exec .grant s = .next (ownGrant f s.takeHead) :=
  congrArg Host.Outcome.next (execute_of_admits h)

/-! ### HELLO -/

theorem Policy.ofCode_eq_some {p : Byte} {policy : Policy} :
    Policy.ofCode p = some policy ↔ p = 0 ∧ policy = .dropNewest ∨ p = 1 ∧ policy = .dropOldest := by
  unfold Policy.ofCode
  split_ifs with h0 h1
  · simp [h0, eq_comm]
  · simp [h1, eq_comm]
  · simp only [h0, h1, false_and, or_self]

theorem Policy.ofCode_eq_none {p : Byte} : Policy.ofCode p = none ↔ 2 ≤ p.toNat := by
  unfold Policy.ofCode
  split_ifs with h0 h1
  · simp [h0]
  · simp [h1]
  · simp only [true_iff]; bv_omega

section
variable {p c1 c0 : Byte}

theorem helloOperands_of_ok {policy : Policy}
    (hp : p = 0 ∧ policy = .dropNewest ∨ p = 1 ∧ policy = .dropOldest) (hc : 256 * c1.toNat + c0.toNat ≤ 255) :
    helloOperands [p, c1, c0] = .ok (policy, 256 * c1.toNat + c0.toNat) := by
  simp only [helloOperands, Policy.ofCode_eq_some.2 hp, natOfBytes2_eq]
  exact if_neg (Nat.not_lt_of_ge hc)

theorem helloOperands_of_policy (hp : 2 ≤ p.toNat) : helloOperands [p, c1, c0] = .error ⟨.outOfRange, 0, 0⟩ := by
  simp only [helloOperands, Policy.ofCode_eq_none.2 hp]

theorem helloOperands_of_credits (hp : p.toNat ≤ 1) (hc : 256 ≤ 256 * c1.toNat + c0.toNat) :
    helloOperands [p, c1, c0] = .error ⟨.outOfRange, 0, 1⟩ := by
  cases hpolicy : Policy.ofCode p with
  | none => have := Policy.ofCode_eq_none.1 hpolicy; omega
  | some policy =>
    simp only [helloOperands, hpolicy, natOfBytes2_eq]
    exact if_pos hc

end

/-- A HELLO is refused with what its checks find. -/
theorem exec_hello_refused {f : Frame} {s : State} (hadm : Admits .hello f s) {r : Rejection}
    (h : helloOperands f.body = .error r) :
    exec .hello s = .next (refusedWith f r.status.code (byteOf r.check) (byteOf r.index) s) := by
  rw [exec_hello_of_admits hadm, ← takeHead_refuse hadm.named]
  simp only [ownHello, h]

/-- The thirteen bytes of the HELLO reply but its status (R176). -/
theorem helloContents_eq (previous : Session) (cause : ResetCause) :
    helloContents previous cause =
      [if previous = .opened then 1 else 0, 0x3D, 0x0B, 0x0B, 0x16, 0x01, 16, 32, 24, 48, 64, cause.code] := by
  cases previous <;> rfl

/-- An ALERT notice is withdrawn, and placed again where the alert set is not empty (R137, R138). -/
theorem withdrawAlert_renewAlert (s : State) :
    s.withdrawAlert.renewAlert =
      { s with
        alerts := { s.alerts with noticeOutstanding := decide (s.alerts.entries ≠ []) }
        link := { s.link with alertNotice := decide (s.alerts.entries ≠ []) } } := by
  unfold State.renewAlert
  split_ifs with h
  · simp [State.withdrawAlert, show s.alerts.entries = [] from h]
  · simp [State.withdrawAlert, State.placeAlert, show s.alerts.entries ≠ [] from h]

/-- Placing a notice does not hang on the answer queued before it. -/
theorem renewAlert_accept (k : RequestKind) (f : Frame) (contents : List Byte) (s : State) :
    (s.accept k f contents).renewAlert = s.renewAlert.accept k f contents := by
  rw [State.renewAlert, State.renewAlert, apply_ite (State.accept k f contents)]
  rfl

/-- Settles O5: the session opens with the alert notice renewed, or a check refuses it. -/
theorem helloOpensSession : Obligations.HelloOpensSession := by
  refine ⟨fun s f p c1 c0 policy hadm hbody hp hc => ?_, fun s f p c1 c0 hadm hbody => ⟨fun hp => ?_, fun hp hc => ?_⟩⟩
  · rw [exec_hello_of_admits hadm]
    simp only [ownHello, hbody, helloOperands_of_ok hp hc, renewAlert_accept, State.openSession, withdrawAlert_renewAlert,
      ReportSide.reopen, reports_eq_reportEntries, helloContents_eq]
    rfl
  · exact exec_hello_refused hadm (hbody ▸ helloOperands_of_policy hp)
  · exact exec_hello_refused hadm (hbody ▸ helloOperands_of_credits hp hc)

/-! ### GRANT -/

/-- A GRANT of other than 0 credits, taken (R122). -/
theorem exec_grant_taken {f : Frame} {s : State} {n : Byte} (hadm : Admits .grant f s) (hbody : f.body = [n])
    (hn : n ≠ 0) :
    exec .grant s =
      .next
        (answered f 0x91 [0x00, byteOf (grantedCredits s.report.credits n.toNat)]
          { s with report := { s.report with credits := grantedCredits s.report.credits n.toNat } }) := by
  rw [exec_grant_of_admits hadm]
  simp only [ownGrant, hbody, if_neg hn]
  rfl

/-- Settles O21: by whether the sum of the credits and the grant passes 255. -/
theorem grantRaisesCredits : Obligations.GrantRaisesCredits := by
  intro s f n hadm hbody
  refine ⟨fun hn => ?_, fun hn hsum => ?_, fun hsum hn => ?_⟩
  · rw [exec_grant_of_admits hadm]
    simp only [ownGrant, hbody, if_pos hn, takeHead_refuse hadm.named]
    rfl
  · have hgranted : grantedCredits s.report.credits n.toNat = s.report.credits + n.toNat := Nat.min_eq_right hsum
    rw [exec_grant_taken hadm hbody hn, hgranted]
  · have hgranted : grantedCredits s.report.credits n.toNat = 255 := Nat.min_eq_left (Nat.le_of_succ_le hsum)
    rw [exec_grant_taken hadm hbody hn, hgranted]
    rfl

end Sys2Proof.Machine
end

section
/-! PROOFS. The alert unit's law (R132, R136 to R138): what keeps it, operation by operation, and from that every command. -/

namespace Sys2Proof.Machine

/-! ### What keeps the law -/

/-- The law speaks of the alert unit and of the alert position alone. -/
theorem AlertLaw.of_eq {s t : State} (h : AlertLaw s) (ha : t.alerts = s.alerts)
    (hn : t.link.alertNotice = s.link.alertNotice) : AlertLaw t where
  entries := ha ▸ h.entries
  outstanding := ha ▸ h.outstanding
  waiting hw := ha ▸ h.waiting (hn ▸ hw)

/-- A notice that has left the alert position stays outstanding (R135, R136). -/
theorem AlertLaw.notice_departs {s t : State} (h : AlertLaw s) (ha : t.alerts = s.alerts)
    (hn : t.link.alertNotice = false) : AlertLaw t where
  entries := ha ▸ h.entries
  outstanding := ha ▸ h.outstanding
  waiting hw := Bool.noConfusion (hn.symm.trans hw)

theorem AlertLaw.latch {s : State} {k : AlertKey} (h : AlertLaw s) : AlertLaw (s.latch k) :=
  latch_eq_latched k s ▸ latched_keeps_alertLaw [k] h

theorem AlertLaw.setRunState {r : RunState} {s : State} (h : AlertLaw s) : AlertLaw (s.setRunState r) :=
  h.of_eq rfl rfl

theorem AlertLaw.accept {k : RequestKind} {f : Frame} {contents : List Byte} {s : State} (h : AlertLaw s) :
    AlertLaw (s.accept k f contents) :=
  h.of_eq rfl rfl

theorem AlertEntriesLaw.filter {es : List AlertEntry} (h : AlertEntriesLaw es) (p : AlertEntry → Bool) :
    AlertEntriesLaw (es.filter p) :=
  ⟨h.1.filter p, fun e he => h.2 e (List.mem_of_mem_filter he)⟩

/-- A notice withdrawn and renewed stands for the entries, whatever stood before (R137, R138). -/
theorem alertLaw_renewed {s : State} (h : AlertEntriesLaw s.alerts.entries) : AlertLaw s.withdrawAlert.renewAlert := by
  rw [withdrawAlert_renewAlert]
  exact ⟨h, decide_eq_true_iff, id⟩

theorem alertLaw_atReset (pending : List Instr) (phase : Phase) (cause : ResetCause) (rate : LinkRate) :
    AlertLaw (atReset pending phase cause rate) :=
  alertLaw_reset.of_eq rfl rfl

/-! ### Shared operations -/

section
variable {s : State}

theorem alertLaw_applyBatch {b : Batch} (h : AlertLaw s) : AlertLaw (s.applyBatch b) := by
  rw [applyBatch_eq_latched]
  exact latched_keeps_alertLaw _ (h.of_eq rfl rfl)

theorem alertLaw_boundary (h : AlertLaw s) : AlertLaw s.boundary := by
  rcases boundary_cases s with ⟨-, hb⟩ | ⟨b, -, hb⟩ <;> rw [hb]
  · exact h
  · exact alertLaw_applyBatch h

theorem alertLaw_scanStart (h : AlertLaw s) : AlertLaw s.scanStart :=
  (alertLaw_boundary (s := s.countScan) (h.of_eq rfl rfl)).of_eq rfl rfl

theorem alertLaw_enterStandby (h : AlertLaw s) : AlertLaw s.enterStandby :=
  (alertLaw_boundary (s := s.restEngine) (h.of_eq rfl rfl)).of_eq rfl rfl

theorem alertLaw_overrun (h : AlertLaw s) : AlertLaw s.overrun := AlertLaw.latch (h.of_eq rfl rfl)

theorem alertLaw_missTrigger (h : AlertLaw s) : AlertLaw s.missTrigger := AlertLaw.latch (h.of_eq rfl rfl)

theorem alertLaw_timeoutFrame (h : AlertLaw s) : AlertLaw s.timeoutFrame := AlertLaw.latch (h.of_eq rfl rfl)

theorem alertLaw_lengthFault (h : AlertLaw s) : AlertLaw s.lengthFault := AlertLaw.latch (h.of_eq rfl rfl)

theorem alertLaw_arbiter (h : AlertLaw s) : AlertLaw s.arbiter := by
  rcases arbiter_cases s with ha | ⟨c, -, -, -, -, ha⟩ <;> rw [ha]
  · exact h
  · cases c with
    | reply r | ready cause | report o => exact h.of_eq rfl rfl
    | alert => exact h.notice_departs rfl rfl

theorem alertLaw_arrive {r : ReportRecord} (h : AlertLaw s) : AlertLaw (s.arrive r) := by
  rw [arrive_eq_latched]
  exact latched_keeps_alertLaw _ (h.of_eq rfl rfl)

/-! ### Requests -/

theorem alertLaw_execute {k : RequestKind} {own : Frame → State → State} (h : AlertLaw s)
    (hown : ∀ f u, AlertLaw u → AlertLaw (own f u)) : AlertLaw (s.execute k own) := by
  rcases execute_cases k own s with he | ⟨f, -, -, ⟨-, he⟩ | ⟨r, -, he⟩⟩ <;> rw [he]
  · exact h
  · exact hown f s.takeHead (h.of_eq rfl rfl)
  · exact h.of_eq rfl rfl

theorem alertLaw_unknown (h : AlertLaw s) : AlertLaw s.executeUnknown := by
  rcases executeUnknown_cases s with he | ⟨f, -, -, he⟩ <;> rw [he]
  · exact h
  · exact h.of_eq rfl rfl

theorem alertLaw_duplicate (h : AlertLaw s) : AlertLaw s.answerDuplicate := by
  rcases answerDuplicate_cases s with he | ⟨f, m, -, -, -, he⟩ <;> rw [he]
  · exact h
  · exact h.of_eq rfl rfl

/-! ### Events of the link -/

theorem alertLaw_whileRunning {f : State → State} (h : AlertLaw s) (hf : AlertLaw (f s)) :
    AlertLaw (s.whileRunning f) := by
  unfold State.whileRunning
  split_ifs
  · exact hf
  · exact h

theorem alertLaw_arrival {f : RxFrame} {high low : Byte} (h : AlertLaw s) : AlertLaw (s.arrival f high low) := by
  unfold State.arrival
  split_ifs
  · exact AlertLaw.latch (h.of_eq rfl rfl)
  · exact h.of_eq rfl rfl
  · exact AlertLaw.latch (h.of_eq rfl rfl)

theorem alertLaw_headerByte {f : RxFrame} {b : Byte} (h : AlertLaw s) : AlertLaw (s.headerByte f b) := by
  unfold State.headerByte
  dsimp only
  split
  · split_ifs
    · exact alertLaw_lengthFault h
    · exact h.of_eq rfl rfl
  · exact h.of_eq rfl rfl
  · exact h.of_eq rfl rfl

theorem alertLaw_checkByte {f : RxFrame} {b : Byte} (h : AlertLaw s) : AlertLaw (s.checkByte f b) := by
  unfold State.checkByte
  split
  · exact h.of_eq rfl rfl
  · exact alertLaw_arrival h

theorem alertLaw_receiveByte {b : Byte} (h : AlertLaw s) : AlertLaw (s.receiveByte b) := by
  unfold State.receiveByte
  dsimp only
  cases s.link.rxState with
  | inactive | wakeListen | wakeQuiet => exact h
  | hunt | sync => dsimp only; split_ifs <;> exact h.of_eq rfl rfl
  | header => exact alertLaw_headerByte h
  | body => exact h.of_eq rfl rfl
  | check => exact alertLaw_checkByte h

theorem alertLaw_receiveCharacter {ch : Character} (h : AlertLaw s) : AlertLaw (s.receiveCharacter ch) := by
  have hends : AlertLaw s.characterEnds := h.of_eq rfl rfl
  unfold State.receiveCharacter
  split_ifs
  · exact h
  · cases ch with
    | byte b => exact alertLaw_receiveByte hends
    | framingError late =>
      dsimp only [State.framingError]
      split_ifs
      · exact alertLaw_timeoutFrame hends
      · exact hends

theorem alertLaw_characterTimesOut (h : AlertLaw s) : AlertLaw s.characterTimesOut := by
  unfold State.characterTimesOut
  split_ifs
  · exact alertLaw_timeoutFrame h
  · exact h

theorem alertLaw_takeStartBit (h : AlertLaw s) : AlertLaw s.takeStartBit := by
  unfold State.takeStartBit
  split_ifs
  · exact h
  · split <;> exact h.of_eq rfl rfl

theorem alertLaw_receiveBreak {rate : Level} (h : AlertLaw s) : AlertLaw (s.receiveBreak rate) := by
  unfold State.receiveBreak
  split_ifs
  · exact h
  all_goals dsimp only; split_ifs
  · exact requestedReset_eq rate _ ▸ alertLaw_atReset ..
  · exact h.of_eq rfl rfl
  · exact requestedReset_eq rate _ ▸ alertLaw_atReset ..
  · exact h.of_eq rfl rfl

theorem alertLaw_endTransmission {rate : Level} (h : AlertLaw s) : AlertLaw (s.endTransmission rate) := by
  unfold State.endTransmission
  split
  · exact h
  · dsimp only
    split_ifs
    · exact requestedReset_eq rate _ ▸ alertLaw_atReset ..
    · exact h.of_eq rfl rfl

/-! ### Resets -/

theorem alertLaw_resetNLow (h : AlertLaw s) : AlertLaw s.resetNLow := by
  unfold State.resetNLow
  split
  · exact h
  · exact blocksReset_eq _ s ▸ alertLaw_atReset ..
  · exact blocksReset_eq _ s ▸ alertLaw_atReset ..

theorem alertLaw_resetNHigh {rate : Level} (h : AlertLaw s) : AlertLaw (s.resetNHigh rate) := by
  unfold State.resetNHigh
  split <;> exact h.of_eq rfl rfl

theorem alertLaw_endStartUp (h : AlertLaw s) : AlertLaw s.endStartUp := by
  unfold State.endStartUp
  split <;> exact h.of_eq rfl rfl

/-! ### Events of the scan engine -/

theorem alertLaw_overcurrent {g : Group} (h : AlertLaw s) : AlertLaw (s.overcurrent g) := by
  unfold State.overcurrent
  split_ifs
  · exact AlertLaw.latch (h.of_eq rfl rfl)
  · exact h

theorem alertLaw_armingSettled (h : AlertLaw s) : AlertLaw s.armingSettled := by
  unfold State.armingSettled
  split
  · dsimp only
    split
    · exact alertLaw_scanStart (h.of_eq rfl rfl)
    · exact h.of_eq rfl rfl
  · exact h

theorem alertLaw_wakeSettled (h : AlertLaw s) : AlertLaw s.wakeSettled := by
  unfold State.wakeSettled
  split
  · exact alertLaw_scanStart (h.of_eq rfl rfl)
  · exact h

theorem alertLaw_onExpiry (h : AlertLaw s) : AlertLaw s.onExpiry := by
  unfold State.onExpiry
  cases s.engine.runState with
  | waiting => exact alertLaw_scanStart h
  | doze => exact h.of_eq rfl rfl
  | settling | scanning => exact alertLaw_overrun h
  | draining | standby | arming => exact h

theorem alertLaw_timerExpires (h : AlertLaw s) : AlertLaw s.timerExpires := by
  unfold State.timerExpires
  split
  · exact h
  · exact alertLaw_onExpiry (h.of_eq rfl rfl)

theorem alertLaw_onTrigger (h : AlertLaw s) : AlertLaw s.onTrigger := by
  unfold State.onTrigger
  cases s.engine.mode with
  | free => exact h
  | triggered =>
    cases s.engine.runState with
    | waiting => exact alertLaw_scanStart h
    | doze => exact h.of_eq rfl rfl
    | arming | settling | scanning | draining => exact alertLaw_missTrigger h
    | standby => exact h

theorem alertLaw_takeTrigger (h : AlertLaw s) : AlertLaw s.takeTrigger := by
  unfold State.takeTrigger
  split
  · exact h
  · exact alertLaw_onTrigger (h.of_eq rfl rfl)

/-! ### Conversions -/

/-- The latches of the rewrite and of the trackers, then those of the arrivals, with a choice of the arbiter (R40, R118). -/
theorem alertLaw_completed {choice : Option Nat} (h : AlertLaw s) : AlertLaw (s.completed choice) := by
  rw [completed_eq choice s rfl]
  have hbegun : AlertLaw (s.completionBegun (.ofFn s.newResult)) := latched_keeps_alertLaw _ (h.of_eq rfl rfl)
  exact (arriveAll_induction (p := AlertLaw) choice (fun _ _ => alertLaw_arrive) (fun _ => alertLaw_arbiter)
    _ 0 _ hbegun).of_eq rfl rfl

theorem alertLaw_completeScan {choice : Option Nat} (h : AlertLaw s) : AlertLaw (s.completeScan choice) := by
  rw [completeScan_eq]
  split_ifs
  · exact (alertLaw_completed h).setRunState
  · exact alertLaw_enterStandby (alertLaw_completed h)

theorem alertLaw_endSlot {choice : Option Nat} {sl : SlotInFlight} (h : AlertLaw s) : AlertLaw (s.endSlot choice sl) := by
  unfold State.endSlot
  dsimp only
  split
  · exact h.of_eq rfl rfl
  · exact alertLaw_completeScan (h.of_eq rfl rfl)

theorem alertLaw_conversionEnds {code : BitVec 24} {senseGood : Bool} {choice : Option Nat} (h : AlertLaw s) :
    AlertLaw (s.conversionEnds code senseGood choice) := by
  unfold State.conversionEnds
  split
  · exact h
  · split_ifs
    · unfold State.endConversion
      dsimp only
      split
      · exact h.of_eq rfl rfl
      · exact alertLaw_endSlot (h.of_eq rfl rfl)
    · exact h

end

/-! ### The requests' own parts -/

section
variable {f : Frame} {s : State}

theorem alertLaw_hello (h : AlertLaw s) : AlertLaw (ownHello f s) := by
  unfold ownHello
  split
  · exact h.of_eq rfl rfl
  · rw [renewAlert_accept, State.openSession]
    refine AlertLaw.accept (alertLaw_renewed ?_)
    exact h.entries

/-- What is left of the entries keeps their law, and the notice is renewed for it (R137). -/
theorem alertLaw_ackAlerts (h : AlertLaw s) : AlertLaw (ownAckAlerts f s) := by
  unfold ownAckAlerts
  dsimp only
  split
  · exact h.of_eq rfl rfl
  · rw [renewAlert_accept]
    exact (alertLaw_renewed (h.entries.filter _)).accept

theorem alertLaw_stage (h : AlertLaw s) : AlertLaw (ownStage f s) := by
  unfold ownStage
  split
  · exact h.of_eq rfl rfl
  · dsimp only
    split_ifs <;> exact h.of_eq rfl rfl

theorem alertLaw_seal (h : AlertLaw s) : AlertLaw (ownSeal f s) := by
  unfold ownSeal
  split
  · exact h.of_eq rfl rfl
  · dsimp only
    split_ifs
    · exact AlertLaw.accept (alertLaw_applyBatch (h.of_eq rfl rfl))
    · exact h.of_eq rfl rfl

theorem alertLaw_readConfig (h : AlertLaw s) : AlertLaw (ownReadConfig f s) := by
  unfold ownReadConfig
  split <;> exact h.of_eq rfl rfl

theorem alertLaw_start (h : AlertLaw s) : AlertLaw (ownStart f s) := by
  unfold ownStart
  split <;> exact h.of_eq rfl rfl

theorem alertLaw_stop (h : AlertLaw s) : AlertLaw (ownStop f s) := by
  suffices hrun : AlertLaw s.stopRun from hrun.of_eq rfl rfl
  rcases stopRun_cases s with hs | hs | hs <;> rw [hs]
  · exact h
  · exact h.of_eq rfl rfl
  · exact alertLaw_enterStandby h

theorem alertLaw_abort (h : AlertLaw s) : AlertLaw (ownAbort f s) := by
  suffices hrun : AlertLaw s.abortRun from hrun.of_eq rfl rfl
  rcases abortRun_cases s with hs | hs | hs <;> rw [hs]
  · exact h
  · exact alertLaw_enterStandby h
  · exact alertLaw_enterStandby (s := s.abortScan) (h.of_eq rfl rfl)

theorem alertLaw_retrack (h : AlertLaw s) : AlertLaw (ownRetrack f s) := by
  unfold ownRetrack
  split
  · exact h.of_eq rfl rfl
  · exact AlertLaw.accept (h.of_eq rfl rfl)

theorem alertLaw_readTracker (h : AlertLaw s) : AlertLaw (ownReadTracker f s) := by
  unfold ownReadTracker
  split <;> exact h.of_eq rfl rfl

theorem alertLaw_readResults (h : AlertLaw s) : AlertLaw (ownReadResults f s) := by
  unfold ownReadResults
  split <;> exact h.of_eq rfl rfl

theorem alertLaw_subscribe (h : AlertLaw s) : AlertLaw (ownSubscribe f s) := by
  unfold ownSubscribe
  split <;> exact h.of_eq rfl rfl

theorem alertLaw_unsubscribe (h : AlertLaw s) : AlertLaw (ownUnsubscribe f s) := by
  unfold ownUnsubscribe
  split
  · split_ifs <;> exact h.of_eq rfl rfl
  · exact h.of_eq rfl rfl

theorem alertLaw_listSubscriptions (h : AlertLaw s) : AlertLaw (ownListSubscriptions f s) := by
  unfold ownListSubscriptions
  split
  · split_ifs <;> exact h.of_eq rfl rfl
  · exact h.of_eq rfl rfl

theorem alertLaw_grant (h : AlertLaw s) : AlertLaw (ownGrant f s) := by
  unfold ownGrant
  split
  · split_ifs <;> exact h.of_eq rfl rfl
  · exact h.of_eq rfl rfl

theorem alertLaw_readAlerts (h : AlertLaw s) : AlertLaw (ownReadAlerts f s) := by
  unfold ownReadAlerts
  split
  · split_ifs <;> exact h.of_eq rfl rfl
  · exact h.of_eq rfl rfl

end

/-! ### Every command -/

theorem exec_keeps_alertLaw {c : Instr} {s t : State} (h : AlertLaw s) (hexec : exec c s = .next t) : AlertLaw t := by
  cases c <;> obtain rfl := Host.Outcome.next.inj hexec
  case hello => exact alertLaw_execute h fun _ _ => alertLaw_hello
  case getState => exact alertLaw_execute (own := ownGetState) h fun _ _ hu => hu.of_eq rfl rfl
  case reset => exact alertLaw_execute (own := ownReset) h fun _ _ hu => hu.of_eq rfl rfl
  case stage => exact alertLaw_execute h fun _ _ => alertLaw_stage
  case discard => exact alertLaw_execute (own := ownDiscard) h fun _ _ hu => hu.of_eq rfl rfl
  case readConfig => exact alertLaw_execute h fun _ _ => alertLaw_readConfig
  case start => exact alertLaw_execute h fun _ _ => alertLaw_start
  case stop => exact alertLaw_execute h fun _ _ => alertLaw_stop
  case abort => exact alertLaw_execute h fun _ _ => alertLaw_abort
  case retrack => exact alertLaw_execute h fun _ _ => alertLaw_retrack
  case readTracker => exact alertLaw_execute h fun _ _ => alertLaw_readTracker
  case readResults => exact alertLaw_execute h fun _ _ => alertLaw_readResults
  case subscribe => exact alertLaw_execute h fun _ _ => alertLaw_subscribe
  case unsubscribe => exact alertLaw_execute h fun _ _ => alertLaw_unsubscribe
  case listSubscriptions => exact alertLaw_execute h fun _ _ => alertLaw_listSubscriptions
  case grant => exact alertLaw_execute h fun _ _ => alertLaw_grant
  case ackAlerts => exact alertLaw_execute h fun _ _ => alertLaw_ackAlerts
  case readAlerts => exact alertLaw_execute h fun _ _ => alertLaw_readAlerts
  case readCounters => exact alertLaw_execute (own := ownReadCounters) h fun _ _ hu => hu.of_eq rfl rfl
  case unknownKind => exact alertLaw_unknown h
  case duplicate => exact alertLaw_duplicate h
  case frameArrival b =>
    refine alertLaw_whileRunning h ?_
    split_ifs
    · exact alertLaw_receiveByte (h.of_eq rfl rfl)
    · exact h
  case lengthError b =>
    refine alertLaw_whileRunning h ?_
    split_ifs
    · exact alertLaw_lengthFault (h.of_eq rfl rfl)
    · exact h
  case characterTimeout => exact alertLaw_whileRunning h (alertLaw_characterTimesOut h)
  case breakDetected rate => exact alertLaw_whileRunning h (alertLaw_receiveBreak h)
  case breakEnd => exact alertLaw_whileRunning h (h.of_eq rfl rfl)
  case wake => exact alertLaw_whileRunning h (alertLaw_takeStartBit h)
  case wakeQuietEnd =>
    refine alertLaw_whileRunning h ?_
    split_ifs <;> exact h.of_eq rfl rfl
  case arbiterChoice => exact alertLaw_arbiter h
  case transmitEnd rate => exact alertLaw_whileRunning h (alertLaw_endTransmission h)
  case powerOn resetN rate => cases resetN <;> exact alertLaw_atReset ..
  case resetNLow => exact alertLaw_resetNLow h
  case resetNHigh rate => exact alertLaw_resetNHigh h
  case startUpEnd => exact alertLaw_endStartUp h
  case armingSettleEnd => exact alertLaw_whileRunning h (alertLaw_armingSettled h)
  case timerExpiry => exact alertLaw_whileRunning h (alertLaw_timerExpires h)
  case trigEdge direction => exact alertLaw_whileRunning h (h.of_eq rfl rfl)
  case trigger => exact alertLaw_whileRunning h (alertLaw_takeTrigger h)
  case wakeSettleEnd => exact alertLaw_whileRunning h (alertLaw_wakeSettled h)
  case syncPulseEnd => exact alertLaw_whileRunning h (h.of_eq rfl rfl)
  case conversionEnd code senseGood choice =>
    exact alertLaw_whileRunning h (alertLaw_conversionEnds h)
  case dozeEntry =>
    refine alertLaw_whileRunning h ?_
    split_ifs <;> exact h.of_eq rfl rfl
  case overcurrent g => exact alertLaw_whileRunning h (alertLaw_overcurrent h)
  case characterReceived ch => exact alertLaw_whileRunning h (alertLaw_receiveCharacter h)
  -- SEAL is left, whose constructor's name is a word of Lean and cannot stand after `case`.
  · exact alertLaw_execute h fun _ _ => alertLaw_seal

/-- Settles O52: every command keeps the law, and a step runs a command or idles. -/
theorem alertLawKept : Obligations.AlertLawKept := by
  intro s t h hstep
  unfold step at hstep
  split at hstep
  · cases hstep; exact h
  · exact exec_keeps_alertLaw (s := s.popFront) (h.of_eq rfl rfl) hstep

end Sys2Proof.Machine
end

section
/-! PROOFS. The requests of the alert unit: ACK_ALERTS (R137, R172) and READ_ALERTS (R140, R178). -/

namespace Sys2Proof.Machine

theorem exec_ackAlerts_of_admits {f : Frame} {s : State} (h : Admits .ackAlerts f s) :
    exec .ackAlerts s = .next (ownAckAlerts f s.takeHead) :=
  congrArg Host.Outcome.next (execute_of_admits h)

theorem exec_readAlerts_of_admits {f : Frame} {s : State} (h : Admits .readAlerts f s) :
    exec .readAlerts s = .next (ownReadAlerts f s.takeHead) :=
  congrArg Host.Outcome.next (execute_of_admits h)

/-! ### ACK_ALERTS -/

@[simp] theorem ackForm_all : ackForm [1] = .all := rfl

@[simp] theorem ackForm_list (keys : List Byte) : ackForm (0 :: keys) = .list keys := rfl

theorem AckForm.names_list {keys : List Byte} {e : AlertEntry} :
    (AckForm.list keys).names e = true ↔ ∃ k ∈ keys, k.toNat = e.key.index := by
  simp [AckForm.names]

theorem AckForm.fault_list_of_le {keys : List Byte} (h : ∀ k ∈ keys, k.toNat ≤ 37) :
    (AckForm.list keys).fault = none := by
  have hnone : firstAbove maxKeyIndex keys = none :=
    List.findIdx?_eq_none_iff.2 fun k hk => decide_eq_false (Nat.not_lt.2 (h k hk))
  simp only [AckForm.fault, hnone, Option.map_none]

/-- The first key index above 37 is the fault, with its position (R172). -/
theorem AckForm.fault_list_of_above {before after : List Byte} {k : Byte} (hbefore : ∀ b ∈ before, b.toNat ≤ 37)
    (hk : 38 ≤ k.toNat) :
    (AckForm.list (before ++ k :: after)).fault = some ⟨.outOfRange, 0, before.length⟩ := by
  have hnone : before.findIdx? (fun b => decide (maxKeyIndex < b.toNat)) = none :=
    List.findIdx?_eq_none_iff.2 fun b hb => decide_eq_false (Nat.not_lt.2 (hbefore b hb))
  have hhead : decide (maxKeyIndex < k.toNat) = true := decide_eq_true hk
  simp [AckForm.fault, firstAbove, List.findIdx?_append, hnone, List.findIdx?_cons, hhead]

/-- An ACK_ALERTS taken: the entries its form names leave the set, and the notice is renewed for those left (R137, R172). -/
theorem exec_ackAlerts_taken {f : Frame} {s : State} (hadm : Admits .ackAlerts f s) {named : AlertEntry → Bool}
    (hfault : (ackForm f.body).fault = none) (hnames : (ackForm f.body).names = named) :
    exec .ackAlerts s = .next
      (answered f 0x92
        ([0x00, byteOf (s.alerts.entries.filter named).length] ++
          (s.alerts.entries.filter named).flatMap AlertEntry.short ++
          [byteOf (s.alerts.entries.filter fun e => !named e).length])
        { s with
          alerts :=
            { entries := s.alerts.entries.filter fun e => !named e
              noticeOutstanding := decide ((s.alerts.entries.filter fun e => !named e) ≠ []) }
          link := { s.link with alertNotice := decide ((s.alerts.entries.filter fun e => !named e) ≠ []) } }) := by
  rw [exec_ackAlerts_of_admits hadm]
  simp only [ownAckAlerts, hfault, hnames, renewAlert_accept, withdrawAlert_renewAlert]
  rfl

/-- ALL names every entry, and a list of indices up to 37 those of its keys; neither has a fault. -/
theorem ackForm_of_body {body : List Byte} {named : AlertEntry → Bool}
    (h : body = [1] ∧ (∀ e, named e = true) ∨
      ∃ keys, body = 0 :: keys ∧ (∀ k ∈ keys, k.toNat ≤ 37) ∧
        ∀ e, named e = true ↔ ∃ k ∈ keys, k.toNat = e.key.index) :
    (ackForm body).fault = none ∧ (ackForm body).names = named := by
  rcases h with ⟨rfl, hall⟩ | ⟨keys, rfl, hkeys, hnamed⟩
  · exact ⟨rfl, funext fun e => (hall e).symm⟩
  · rw [ackForm_list]
    exact ⟨AckForm.fault_list_of_le hkeys, funext fun e => Bool.eq_iff_iff.2 (AckForm.names_list.trans (hnamed e).symm)⟩

/-! ### READ_ALERTS -/

theorem byteOf_nextKeyIndex (rest : List AlertEntry) :
    byteOf (nextKeyIndex rest) = match rest with
      | [] => 0xFF
      | e :: _ => byteOf e.key.index := by
  cases rest <;> rfl

/-- The reply that reads from a key index onward, where the set is parted at that index (R178). -/
theorem readAlertsContents_eq {first : Nat} {u : AlertUnit} {below shown beyond : List AlertEntry}
    (hentries : u.entries = below ++ shown ++ beyond) (hbelow : ∀ e ∈ below, e.key.index < first)
    (hshown : ∀ e ∈ shown, first ≤ e.key.index) (hbeyond : ∀ e ∈ beyond, first ≤ e.key.index)
    (hlength : shown.length ≤ 16) (hfull : beyond ≠ [] → shown.length = 16) :
    readAlertsContents first u =
      [byteOf u.entries.length, flagByte u.noticeOutstanding, byteOf (nextKeyIndex beyond), byteOf shown.length] ++
        shown.flatMap AlertEntry.full := by
  have honward : u.entries.filter (fun e => decide (first ≤ e.key.index)) = shown ++ beyond := by
    rw [hentries, List.filter_append, List.filter_append, List.filter_eq_nil_iff.2 fun e he => by simpa using hbelow e he,
      List.filter_eq_self.2 fun e he => decide_eq_true (hshown e he),
      List.filter_eq_self.2 fun e he => decide_eq_true (hbeyond e he), List.nil_append]
  have hparts : (shown ++ beyond).take 16 = shown ∧ (shown ++ beyond).drop 16 = beyond := by
    by_cases hnone : beyond = []
    · rw [hnone, List.append_nil]
      exact ⟨List.take_of_length_le hlength, List.drop_of_length_le hlength⟩
    · exact ⟨List.take_left' (hfull hnone), List.drop_left' (hfull hnone)⟩
  simp only [readAlertsContents, listedAlerts, honward, hparts]

/-- Settles O22: what an ACK_ALERTS's form names and whether it has a fault, and a set parted at the key index asked for. -/
theorem alertRequests : Obligations.AlertRequests := by
  refine ⟨fun s f named hadm hbody => ?_, fun s f before k after hadm hbody hbefore hk => ?_,
    fun s f first below shown beyond hadm hbody hfirst hentries hbelow hshown hbeyond hlength hfull => ?_,
    fun s f first hadm hbody hfirst => ?_⟩
  · obtain ⟨hfault, hnames⟩ := ackForm_of_body hbody
    exact exec_ackAlerts_taken hadm hfault hnames
  · rw [exec_ackAlerts_of_admits hadm]
    simp only [ownAckAlerts, hbody, ackForm_list, AckForm.fault_list_of_above hbefore hk]
    rw [takeHead_refuse hadm.named]
    rfl
  · have hrange : ¬ maxKeyIndex < first.toNat := Nat.not_lt.2 hfirst
    rw [exec_readAlerts_of_admits hadm]
    simp only [ownReadAlerts, hbody, if_neg hrange, State.takeHead_alerts]
    rw [readAlertsContents_eq hentries hbelow hshown hbeyond hlength hfull, byteOf_nextKeyIndex, State.accept,
      takeHead_answer]
    rfl
  · have hrange : maxKeyIndex < first.toNat := hfirst
    rw [exec_readAlerts_of_admits hadm]
    simp only [ownReadAlerts, hbody, if_pos hrange]
    rw [takeHead_refuse hadm.named]
    rfl

end Sys2Proof.Machine
end

section
/-! PROOFS. The receiver, character by character (R143, R148 to R151, R153), and the frames and errors that its bytes end in (R150,
R151, R164). -/

namespace Sys2Proof.Machine

/-! ### What the receiver's operations write -/

/-- The receiver expects the next part of a frame: all that a byte writes which neither ends a frame nor abandons one. -/
def expecting (r : RxState) (rf : Option RxFrame) (s : State) : State :=
  { s with link := { s.link with rxState := r, rxFrame := rf, startBit := false } }

theorem expecting_same {r : RxState} {s : State} (h : s.link.rxState = r) (rf : Option RxFrame) :
    expecting r rf s = { s with link := { s.link with startBit := false, rxFrame := rf } } := by
  subst h; rfl

@[simp] theorem expecting_expecting (r r' : RxState) (rf rf' : Option RxFrame) (s : State) :
    expecting r rf (expecting r' rf' s) = expecting r rf s := rfl

theorem timeoutFrame_eq_latched (s : State) :
    s.timeoutFrame =
      latched [.linkError]
        { inHunt s with
          link :=
            { (inHunt s).link with
              counters := { s.link.counters with charTimeouts := s.link.counters.charTimeouts + 1 } } } :=
  latch_eq_latched ..

theorem lengthFault_eq_latched (s : State) :
    s.lengthFault =
      latched [.linkError]
        { inHunt s with
          link :=
            { (inHunt s).link with
              counters := { s.link.counters with lengthErrors := s.link.counters.lengthErrors + 1 } } } :=
  latch_eq_latched ..

/-! ### A frame's arrival (R150) -/

section
variable {rf : RxFrame} {high low : Byte} {s : State}

theorem arrival_of_badCrc (h : (high ++ low : Word16) ≠ rf.crc) :
    s.arrival rf high low =
      latched [.linkError]
        { inHunt s with
          link :=
            { (inHunt s).link with
              counters := { s.link.counters with crcErrors := s.link.counters.crcErrors + 1 } } } := by
  rw [State.arrival, if_pos h]
  exact latch_eq_latched ..

theorem arrival_of_room (h : (high ++ low : Word16) = rf.crc) (hroom : s.link.holding.length < 2) :
    s.arrival rf high low =
      { inHunt s with
        link :=
          { (inHunt s).link with
            holding := s.link.holding ++ [rf.frame]
            counters := { s.link.counters with framesAccepted := s.link.counters.framesAccepted + 1 } } } := by
  rw [State.arrival, if_neg (not_not_intro h), if_pos (show _ < Config.holdingFrames from hroom)]
  rfl

theorem arrival_of_full (h : (high ++ low : Word16) = rf.crc) (hfull : 2 ≤ s.link.holding.length) :
    s.arrival rf high low =
      latched [.linkError]
        { inHunt s with
          link :=
            { (inHunt s).link with
              counters := { s.link.counters with rxOverflows := s.link.counters.rxOverflows + 1 } } } := by
  rw [State.arrival, if_neg (not_not_intro h), if_neg (show ¬ _ < Config.holdingFrames from Nat.not_lt.2 hfull)]
  exact latch_eq_latched ..

end

/-! ### A byte in each state of the receiver (R148, R149, R153) -/

section
variable {b : Byte} {rf : RxFrame} {s : State}

theorem receiveByte_of_hunt (h : s.link.rxState = .hunt) :
    s.receiveByte b = if b = 0xA5 then s.setReceiver .sync none else s := by
  simp only [State.receiveByte, h]

theorem receiveByte_of_sync (h : s.link.rxState = .sync) :
    s.receiveByte b =
      if b = 0x5A then s.setReceiver .header (some .start) else if b = 0xA5 then s else s.setReceiver .hunt none := by
  simp only [State.receiveByte, h]

theorem receiveByte_of_header (h : s.link.rxState = .header) (hrf : s.link.rxFrame = some rf) :
    s.receiveByte b = s.headerByte rf b := by
  simp only [State.receiveByte, h, hrf, Option.getD_some]

theorem receiveByte_of_body (h : s.link.rxState = .body) (hrf : s.link.rxFrame = some rf) :
    s.receiveByte b = s.bodyByte rf b := by
  simp only [State.receiveByte, h, hrf, Option.getD_some]

theorem receiveByte_of_check (h : s.link.rxState = .check) (hrf : s.link.rxFrame = some rf) :
    s.receiveByte b = s.checkByte rf b := by
  simp only [State.receiveByte, h, hrf, Option.getD_some]

theorem receiveByte_of_wake (h : s.link.rxState = .wakeListen ∨ s.link.rxState = .wakeQuiet) : s.receiveByte b = s := by
  rcases h with h | h <;> simp only [State.receiveByte, h]

end

/-! ### The commands -/

section
variable {s : State} (hrun : s.phase = .running) (hrxd : s.link.rxdLow = false)
include hrun hrxd

theorem exec_byte (b : Byte) : exec (.characterReceived (.byte b)) s = .next (s.characterEnds.receiveByte b) := by
  simp only [exec, execCharacterReceived, whileRunning_of_running hrun, State.receiveCharacter, hrxd]
  rfl

theorem exec_framingError (late : Bool) :
    exec (.characterReceived (.framingError late)) s = .next (s.characterEnds.framingError late) := by
  simp only [exec, execCharacterReceived, whileRunning_of_running hrun, State.receiveCharacter, hrxd]
  rfl

theorem exec_lengthError {rf : RxFrame} {len : Byte} (hstate : s.link.rxState = .header) (hrf : s.link.rxFrame = some rf)
    (hlen : rf.len = none) (h : 241 ≤ len.toNat) : exec (.lengthError len) s = .next s.characterEnds.lengthFault := by
  have hawaits : s.link.awaitsLen = true := by simp [Link.awaitsLen, hstate, hrf, hlen, hrxd]
  have habove : Config.maxLen < len.toNat := h
  simp only [exec, execLengthError, whileRunning_of_running hrun, if_pos (And.intro hawaits habove)]

/-- The second CRC byte is the frame's arrival, by whichever command it comes (log entry 6). -/
theorem exec_lastByte {rf : RxFrame} {high : Byte} (hstate : s.link.rxState = .check) (hrf : s.link.rxFrame = some rf)
    (hhigh : rf.crcHigh = some high) (b : Byte) :
    exec (.frameArrival b) s = .next (s.characterEnds.arrival rf high b) ∧
      exec (.characterReceived (.byte b)) s = .next (s.characterEnds.arrival rf high b) := by
  have hawaits : s.link.awaitsLastByte = true := by simp [Link.awaitsLastByte, hstate, hrf, hhigh, hrxd]
  have hbyte : s.characterEnds.receiveByte b = s.characterEnds.arrival rf high b := by
    rw [receiveByte_of_check (s := s.characterEnds) hstate hrf, State.checkByte, hhigh]
  refine ⟨?_, (exec_byte hrun hrxd b).trans (congrArg _ hbyte)⟩
  simp only [exec, execFrameArrival, whileRunning_of_running hrun, if_pos hawaits, hbyte]

end

theorem exec_characterTimeout {s : State} (hrun : s.phase = .running) :
    exec .characterTimeout s = .next s.characterTimesOut := by
  simp only [exec, execCharacterTimeout, whileRunning_of_running hrun]

theorem insideFrame_iff (r : RxState) : r.insideFrame = true ↔ r = .sync ∨ r = .header ∨ r = .body ∨ r = .check := by
  cases r <;> decide

/-- Settles O27: the arrival by the CRC and the room in the holding, a LEN byte above 240, and the timeout by the start bit. -/
theorem arrivalAndReceiverErrors : Obligations.ArrivalAndReceiverErrors := by
  refine ⟨fun s rf seq kind high low hrun hrxd hstate hrf hhigh hseq hkind => ?_,
    fun s rf len hrun hrxd hstate hrf hlen habove => ?_, fun s hrun hstart hinside => ?_, fun s hstart => ?_⟩
  · have hframe : rf.frame = ⟨seq, kind, rf.body, rf.crc⟩ := by rw [RxFrame.frame, hseq, hkind]; rfl
    rw [(exec_lastByte hrun hrxd hstate hrf hhigh low).1]
    refine ⟨fun hcrc => congrArg _ (arrival_of_badCrc hcrc), fun hcrc hroom => congrArg _ ?_,
      fun hcrc hfull => congrArg _ (arrival_of_full hcrc hfull)⟩
    rw [arrival_of_room (s := s.characterEnds) hcrc hroom, hframe]
    rfl
  · rw [exec_lengthError hrun hrxd hstate hrf hlen habove, lengthFault_eq_latched]
    rfl
  · rw [exec_characterTimeout hrun, State.characterTimesOut, if_pos ⟨(insideFrame_iff _).2 hinside, hstart⟩,
      timeoutFrame_eq_latched]
  · have hheld : s.characterTimesOut = s := if_neg fun h => Bool.noConfusion (hstart.symm.trans h.2)
    simp only [exec, execCharacterTimeout, State.whileRunning, hheld, ite_self]

/-! ### CHARACTER_RECEIVED -/

section
variable {s : State} (hrun : s.phase = .running) (hrxd : s.link.rxdLow = false)
include hrun hrxd

theorem exec_byte_of_hunt (h : s.link.rxState = .hunt) (b : Byte) :
    exec (.characterReceived (.byte b)) s = .next (if b = 0xA5 then expecting .sync none s else characterOver s) := by
  rw [exec_byte hrun hrxd, receiveByte_of_hunt (s := s.characterEnds) h]
  rfl

theorem exec_byte_of_sync (h : s.link.rxState = .sync) (b : Byte) :
    exec (.characterReceived (.byte b)) s = .next
      (if b = 0x5A then expecting .header (some .start) s
        else if b = 0xA5 then characterOver s else inHunt (characterOver s)) := by
  rw [exec_byte hrun hrxd, receiveByte_of_sync (s := s.characterEnds) h]
  rfl

section
variable {rf : RxFrame}

theorem exec_byte_of_len (h : s.link.rxState = .header) (hrf : s.link.rxFrame = some rf) (hlen : rf.len = none) {b : Byte}
    (hb : b.toNat ≤ 240) :
    exec (.characterReceived (.byte b)) s = .next
      (expecting .header (some { rf with len := some b, crc := crcByte rf.crc b }) s) := by
  rw [exec_byte hrun hrxd, receiveByte_of_header (s := s.characterEnds) h hrf]
  simp only [State.headerByte, hlen, if_neg (show ¬ Config.maxLen < b.toNat from Nat.not_lt.2 hb)]
  rfl

theorem exec_byte_of_longLen (h : s.link.rxState = .header) (hrf : s.link.rxFrame = some rf) (hlen : rf.len = none)
    {b : Byte} (hb : 241 ≤ b.toNat) : exec (.characterReceived (.byte b)) s = exec (.lengthError b) s := by
  rw [exec_lengthError hrun hrxd h hrf hlen hb, exec_byte hrun hrxd, receiveByte_of_header (s := s.characterEnds) h hrf]
  simp only [State.headerByte, hlen, if_pos (show Config.maxLen < b.toNat from hb)]

theorem exec_byte_of_seq (h : s.link.rxState = .header) (hrf : s.link.rxFrame = some rf) {len : Byte}
    (hlen : rf.len = some len) (hseq : rf.seq = none) (b : Byte) :
    exec (.characterReceived (.byte b)) s = .next
      (expecting .header (some { rf with seq := some b, crc := crcByte rf.crc b }) s) := by
  rw [exec_byte hrun hrxd, receiveByte_of_header (s := s.characterEnds) h hrf]
  simp only [State.headerByte, hlen, hseq]
  rfl

theorem exec_byte_of_kind (h : s.link.rxState = .header) (hrf : s.link.rxFrame = some rf) {len : Byte}
    (hlen : rf.len = some len) (hseq : rf.seq ≠ none) (b : Byte) :
    exec (.characterReceived (.byte b)) s = .next
      (expecting (if len = 0 then .check else .body) (some { rf with kind := some b, crc := crcByte rf.crc b }) s) := by
  obtain ⟨seq, hseq⟩ := Option.ne_none_iff_exists'.1 hseq
  rw [exec_byte hrun hrxd, receiveByte_of_header (s := s.characterEnds) h hrf]
  simp only [State.headerByte, hlen, hseq]
  rfl

theorem exec_byte_of_body (h : s.link.rxState = .body) (hrf : s.link.rxFrame = some rf) {len : Byte}
    (hlen : rf.len = some len) (b : Byte) :
    exec (.characterReceived (.byte b)) s = .next
      (expecting (if rf.body.length + 1 < len.toNat then .body else .check)
        (some { rf with body := rf.body ++ [b], crc := crcByte rf.crc b }) s) := by
  have hnext : (if len.toNat ≤ (rf.body ++ [b]).length then RxState.check else .body) =
      if rf.body.length + 1 < len.toNat then .body else .check := by
    simp only [List.length_append, List.length_singleton, ← Nat.not_lt, ite_not]
  rw [exec_byte hrun hrxd, receiveByte_of_body (s := s.characterEnds) h hrf]
  simp only [State.bodyByte, hlen, Option.getD_some, hnext]
  rfl

theorem exec_byte_of_crcHigh (h : s.link.rxState = .check) (hrf : s.link.rxFrame = some rf) (hhigh : rf.crcHigh = none)
    (b : Byte) :
    exec (.characterReceived (.byte b)) s = .next (expecting .check (some { rf with crcHigh := some b }) s) := by
  rw [exec_byte hrun hrxd, receiveByte_of_check (s := s.characterEnds) h hrf, State.checkByte, hhigh]
  rfl

end

theorem exec_byte_of_wake (h : s.link.rxState = .wakeListen ∨ s.link.rxState = .wakeQuiet) (b : Byte) :
    exec (.characterReceived (.byte b)) s = .next (characterOver s) :=
  (exec_byte hrun hrxd b).trans (congrArg _ (receiveByte_of_wake (s := s.characterEnds) h))

/-- A framing error that finds 2 ms past is a character timeout, its own start bit over (R151). -/
theorem exec_framingError_late :
    exec (.characterReceived (.framingError true)) s = exec .characterTimeout (characterOver s) := by
  rw [exec_framingError hrun hrxd, exec_characterTimeout (s := characterOver s) hrun]
  exact congrArg _ (if_congr (by simp [characterOver]) rfl rfl)

end

/-- Settles O28: a byte in each state of the receiver, and a framing error by its mark. -/
theorem characterReceived : Obligations.CharacterReceived := by
  intro s hrun hrxd
  refine ⟨fun b h => ?_, fun b h => ?_, fun b rf h hrf => ⟨fun hlen hb => ?_, fun hlen hb => ?_, fun len hlen => ⟨fun hseq => ?_,
    fun hseq => ?_⟩⟩, fun b len rf h hrf hlen => ?_, fun b rf h hrf => ⟨fun hhigh => ?_, fun hhigh => ?_⟩, fun b h => ?_, ?_, ?_⟩
  · rw [exec_byte_of_hunt hrun hrxd h]
    exact ⟨fun hb => congrArg _ (if_pos hb), fun hb => congrArg _ (if_neg hb)⟩
  · rw [exec_byte_of_sync hrun hrxd h]
    refine ⟨fun hb => congrArg _ (if_pos hb), fun hb => ?_, fun h5A hA5 => ?_⟩
    · subst hb; rfl
    · rw [if_neg h5A, if_neg hA5]
  · rw [exec_byte_of_len hrun hrxd h hrf hlen hb, expecting_same h]
  · exact exec_byte_of_longLen hrun hrxd h hrf hlen hb
  · rw [exec_byte_of_seq hrun hrxd h hrf hlen hseq, expecting_same h]
  · exact exec_byte_of_kind hrun hrxd h hrf hlen hseq b
  · exact exec_byte_of_body hrun hrxd h hrf hlen b
  · rw [exec_byte_of_crcHigh hrun hrxd h hrf hhigh, expecting_same h]
  · obtain ⟨high, hhigh⟩ := Option.ne_none_iff_exists'.1 hhigh
    have hlast := exec_lastByte hrun hrxd h hrf hhigh b
    exact hlast.2.trans hlast.1.symm
  · exact exec_byte_of_wake hrun hrxd h b
  · exact exec_framingError hrun hrxd false
  · exact exec_framingError_late hrun hrxd

end Sys2Proof.Machine
end

section
/-! PROOFS. The CRC and the layout of a frame on the line (R145, R146, R193), and a frame's bytes received one after another (R148 to
R150). -/

namespace Sys2Proof.Machine

/-! ### The CRC and the layout -/

theorem append_zero_eq_shiftLeft (b : Byte) : (b ++ 0#8 : Word16) = b.setWidth 16 <<< 8 := by
  have := b.isLt
  apply BitVec.eq_of_toNat_eq
  rw [toNat_append_byte]
  simp [Nat.shiftLeft_eq]
  omega

theorem crcByte_eq (reg : Word16) (b : Byte) :
    crcByte reg b = shiftedOut (shiftedOut (shiftedOut (shiftedOut (shiftedOut (shiftedOut (shiftedOut (shiftedOut
      (reg ^^^ (b.setWidth 16 <<< 8))))))))) := by
  rw [← append_zero_eq_shiftLeft]; rfl

/-- The two bytes that carry a CRC read back as it (R146). -/
theorem highByte_append_lowByte (crc : Word16) : (crc.extractLsb' 8 8 ++ crc.extractLsb' 0 8 : Word16) = crc := by
  have := crc.isLt
  apply BitVec.eq_of_toNat_eq
  rw [toNat_append_byte]
  simp only [BitVec.extractLsb'_toNat, Nat.shiftRight_eq_div_pow]
  omega

theorem bytes2_eq (crc : Word16) : bytes2 crc = [(crc >>> 8).setWidth 8, crc.setWidth 8] := by
  have hhigh : crc.extractLsb' 8 8 = (crc >>> 8).setWidth 8 :=
    BitVec.eq_of_toNat_eq (by simp only [BitVec.extractLsb'_toNat, BitVec.toNat_setWidth, BitVec.toNat_ushiftRight])
  have hlow : crc.extractLsb' 0 8 = crc.setWidth 8 :=
    BitVec.eq_of_toNat_eq (by simp only [BitVec.extractLsb'_toNat, BitVec.toNat_setWidth, Nat.shiftRight_zero])
  rw [bytes2, hhigh, hlow]

theorem toNat_lenOf {body : List Byte} (h : body.length ≤ 240) : (lenOf body).toNat = body.length := toNat_byteOf (by omega)

/-! ### Characters one after another -/

theorem receiveAll_cons {b : Byte} {s t : State} (h : exec (.characterReceived (.byte b)) s = .next t) (bs : List Byte) :
    receiveAll (b :: bs) s = receiveAll bs t := by
  rw [receiveAll, List.foldl_cons, goesOn, h]; rfl

section
variable {s : State} (hrun : s.phase = .running) (hrxd : s.link.rxdLow = false)
include hrun hrxd

/-- The sync bytes take the receiver from HUNT to HEADER (R148). -/
theorem receiveAll_sync (h : s.link.rxState = .hunt) (bs : List Byte) :
    receiveAll (0xA5 :: 0x5A :: bs) s = receiveAll bs (expecting .header (some .start) s) := by
  have hfirst := exec_byte_of_hunt hrun hrxd h 0xA5
  have hsecond := exec_byte_of_sync (s := expecting .sync none s) hrun hrxd rfl 0x5A
  rw [receiveAll_cons hfirst, if_pos rfl, receiveAll_cons hsecond, if_pos rfl, expecting_expecting]

/-- LEN, SEQ and KIND, after which comes the body, or the CRC where there is none (R149). -/
theorem receiveAll_header {len : Byte} (hlen : len.toNat ≤ 240) (seq kind : Byte) (bs : List Byte) :
    receiveAll (len :: seq :: kind :: bs) (expecting .header (some .start) s) =
      receiveAll bs
        (expecting (if len = 0 then .check else .body)
          (some ⟨some len, some seq, some kind, [], crcOf [len, seq, kind], none⟩) s) := by
  have hfirst := exec_byte_of_len (s := expecting .header (some .start) s) hrun hrxd rfl rfl rfl hlen
  have hsecond := exec_byte_of_seq
    (s := expecting .header (some ⟨some len, none, none, [], crcOf [len], none⟩) s) hrun hrxd rfl rfl rfl rfl seq
  have hthird := exec_byte_of_kind
    (s := expecting .header (some ⟨some len, some seq, none, [], crcOf [len, seq], none⟩) s) hrun hrxd rfl rfl rfl nofun kind
  exact (receiveAll_cons hfirst _).trans ((receiveAll_cons hsecond _).trans (receiveAll_cons hthird _))

/-- The bytes of the body that are still to come (R149). -/
theorem receiveAll_body {len seq kind : Byte} {got body : List Byte} (crc : Word16) (hbody : body ≠ [])
    (hlen : len.toNat = got.length + body.length) (bs : List Byte) :
    receiveAll (body ++ bs) (expecting .body (some ⟨some len, some seq, some kind, got, crc, none⟩) s) =
      receiveAll bs
        (expecting .check (some ⟨some len, some seq, some kind, got ++ body, body.foldl crcByte crc, none⟩) s) := by
  induction body generalizing got crc with
  | nil => exact absurd rfl hbody
  | cons b body ih =>
    have hbyte := exec_byte_of_body (s := expecting .body (some ⟨some len, some seq, some kind, got, crc, none⟩) s)
      hrun hrxd rfl rfl rfl b
    rw [List.cons_append, receiveAll_cons hbyte, expecting_expecting]
    rw [List.length_cons] at hlen
    cases body with
    | nil =>
      rw [if_neg (by simp [hlen])]
      rfl
    | cons b' body =>
      have hrest : len.toNat = (got ++ [b]).length + (b' :: body).length := by
        rw [hlen, List.length_append, List.length_singleton, Nat.add_assoc, Nat.add_comm 1]
      rw [if_pos (by simp [hlen]), ih (crcByte crc b) (List.cons_ne_nil _ _) hrest, List.append_assoc]
      rfl

/-- The two CRC bytes: the second is the frame's arrival (R149, R150). -/
theorem receiveAll_check {rf : RxFrame} (hhigh : rf.crcHigh = none) (crc : Word16) :
    receiveAll (bytes2 crc) (expecting .check (some rf) s) =
      (characterOver s).arrival rf (crc.extractLsb' 8 8) (crc.extractLsb' 0 8) := by
  have hfirst := exec_byte_of_crcHigh (s := expecting .check (some rf) s) hrun hrxd rfl rfl hhigh (crc.extractLsb' 8 8)
  have hsecond := exec_lastByte (s := expecting .check (some { rf with crcHigh := some (crc.extractLsb' 8 8) }) s)
    hrun hrxd rfl rfl rfl (crc.extractLsb' 0 8)
  exact (receiveAll_cons hfirst _).trans (receiveAll_cons hsecond.2 [])

/-- The body of a frame, if it has one, and its CRC bytes (R149, R150). -/
theorem receiveAll_bodyAndCheck (seq kind : Byte) {body : List Byte} (hbody : body.length ≤ 240) (crc : Word16) :
    receiveAll (body ++ bytes2 crc)
        (expecting (if lenOf body = 0 then .check else .body)
          (some ⟨some (lenOf body), some seq, some kind, [], crcOf [lenOf body, seq, kind], none⟩) s) =
      (characterOver s).arrival ⟨some (lenOf body), some seq, some kind, body, crcOf (coveredBytes seq kind body), none⟩
        (crc.extractLsb' 8 8) (crc.extractLsb' 0 8) := by
  by_cases hnil : body = []
  · subst hnil
    exact receiveAll_check hrun hrxd rfl crc
  · have hlen : lenOf body ≠ 0 := fun hzero => by
      have := toNat_lenOf hbody
      rw [hzero] at this
      exact hnil (List.eq_nil_of_length_eq_zero this.symm)
    rw [if_neg hlen, receiveAll_body hrun hrxd _ hnil (by rw [toNat_lenOf hbody]; simp)]
    exact receiveAll_check hrun hrxd rfl crc

/-- A frame's bytes on the line bring about the arrival of its LEN, SEQ, KIND and body with the CRC bytes sent (R148 to R150). -/
theorem receiveAll_wire (h : s.link.rxState = .hunt) (seq kind : Byte) {body : List Byte} (hbody : body.length ≤ 240)
    (crc : Word16) :
    receiveAll (Frame.wire ⟨seq, kind, body, crc⟩) s =
      (characterOver s).arrival ⟨some (lenOf body), some seq, some kind, body, crcOf (coveredBytes seq kind body), none⟩
        (crc.extractLsb' 8 8) (crc.extractLsb' 0 8) :=
  calc receiveAll (Frame.wire ⟨seq, kind, body, crc⟩) s
    _ = receiveAll (lenOf body :: seq :: kind :: (body ++ bytes2 crc)) (expecting .header (some .start) s) :=
      receiveAll_sync hrun hrxd h _
    _ = receiveAll (body ++ bytes2 crc) (expecting _ _ s) :=
      receiveAll_header hrun hrxd ((toNat_lenOf hbody).trans_le hbody) seq kind _
    _ = _ := receiveAll_bodyAndCheck hrun hrxd seq kind hbody crc

end

/-- Settles O29: the CRC and the layout by their definitions, and the arrival that a frame's bytes bring about by its CRC and the
room in the holding. -/
theorem wireRoundTrip : Obligations.WireRoundTrip := by
  refine ⟨crcByte_eq, fun seq kind body => rfl, fun seq kind body crc => ?_, fun s seq kind body crc hrun hrxd h hbody => ?_⟩
  · simp only [Frame.wire, bytes2_eq]
    rfl
  · have hsent := highByte_append_lowByte (makeFrame seq kind body).crc
    refine ⟨fun hroom => ?_, fun hfull => ?_, fun hcrc => ?_⟩
    · exact (receiveAll_wire hrun hrxd h seq kind hbody _).trans (arrival_of_room (s := characterOver s) hsent hroom)
    · exact (receiveAll_wire hrun hrxd h seq kind hbody _).trans (arrival_of_full (s := characterOver s) hsent hfull)
    · have hdiffers : (crc.extractLsb' 8 8 ++ crc.extractLsb' 0 8 : Word16) ≠ (makeFrame seq kind body).crc := by
        rwa [highByte_append_lowByte]
      exact (receiveAll_wire hrun hrxd h seq kind hbody crc).trans (arrival_of_badCrc (s := characterOver s) hdiffers)

end Sys2Proof.Machine
end

section
/-! PROOFS. The resets (R162, R163, R184), the end of a transmission (R159, R163), breaks (R152, R161) and the duplicate (R157). -/

namespace Sys2Proof.Machine

/-! ### Resets -/

theorem rateOfLevel_eq (rate : Level) : rateOfLevel rate = if rate = .low then .bps115200 else .bps921600 := by
  cases rate <;> rfl

/-- Settles O4: POWER_ON by the level of RESET_N, the other reset events by the phase they find. -/
theorem resetEvents : Obligations.ResetEvents := by
  refine ⟨fun rate s => ?_, fun rate s => rfl, fun s hphase => ?_, fun rate cause s hphase => ?_, fun s hphase => ?_,
    fun rate s hphase => ?_, fun cause s hphase => ?_, fun s hphase => ?_⟩
  · rw [← rateOfLevel_eq]; rfl
  · rcases hphase with h | h <;> simp only [exec, execResetNLow, State.resetNLow, h] <;> rfl
  · simp only [exec, execResetNHigh, State.resetNHigh, hphase, ← rateOfLevel_eq]
    rfl
  · simp only [exec, execStartUpEnd, State.endStartUp, hphase]
  · cases h : s.phase with
    | inReset cause => exact absurd h (hphase cause)
    | startUp | running => simp only [exec, execResetNHigh, State.resetNHigh, h]
  · simp only [exec, execResetNLow, State.resetNLow, hphase]
  · cases h : s.phase with
    | startUp => exact absurd h hphase
    | inReset cause | running => simp only [exec, execStartUpEnd, State.endStartUp, h]

/-! ### The reply of a RESET that was taken (log entry 20) -/

theorem isResetReply_iff (kind : Byte) (body : List Byte) : isResetReply kind body = true ↔ IsResetReply kind body := by
  rw [isResetReply, Bool.and_eq_true, decide_eq_true_iff, decide_eq_true_iff]
  rfl

theorem resetReplyPending_iff (l : Link) : l.resetReplyPending = true ↔ ResetReplyPending l := by
  rw [Link.resetReplyPending, Bool.or_eq_true, List.any_eq_true]
  refine or_congr (exists_congr fun r => and_congr_right fun _ => isResetReply_iff ..) ?_
  cases l.transmitter with
  | idle => simp
  | sending f => simp [isResetReply_iff]

/-! ### The end of a transmission -/

theorem exec_transmitEnd {s : State} {f : Frame} (hrun : s.phase = .running) (hsending : s.link.transmitter = .sending f)
    (rate : Level) :
    exec (.transmitEnd rate) s = .next
      (if s.link.resetTaken = true ∧ isResetReply f.kind f.body = true then
        atReset s.pending .startUp .request (rateOfLevel rate)
      else { s with link := { s.link with transmitter := .idle } }) := by
  simp only [exec, execTransmitEnd, whileRunning_of_running hrun, State.endTransmission, hsending, requestedReset_eq]

/-! ### Breaks -/

theorem exec_breakDetected {s : State} (hrun : s.phase = .running) (hrxd : s.link.rxdLow = false)
    (hlisten : s.link.rxState ≠ .wakeListen) (rate : Level) :
    exec (.breakDetected rate) s = .next
      (if s.link.resetTaken = true ∧ s.link.resetReplyPending = true then
        atReset s.pending .startUp .request (rateOfLevel rate)
      else s.breakLink) := by
  simp only [exec, execBreakDetected, whileRunning_of_running hrun, State.receiveBreak, hrxd, if_neg hlisten,
    requestedReset_eq, Bool.false_eq_true, if_false, State.breakLink_pending]

/-- A break in WAKE_LISTEN is the wake and then a break in WAKE_QUIET (log entry 9). -/
theorem exec_breakDetected_of_wakeListen {s : State} (hrun : s.phase = .running) (hrxd : s.link.rxdLow = false)
    (hlisten : s.link.rxState = .wakeListen) (rate : Level) :
    exec (.breakDetected rate) s = exec (.breakDetected rate) s.wakeByStartBit := by
  rw [exec_breakDetected (s := s.wakeByStartBit) hrun hrxd nofun]
  simp only [exec, execBreakDetected, whileRunning_of_running hrun, State.receiveBreak, hrxd, if_pos hlisten,
    requestedReset_eq, Bool.false_eq_true, if_false, State.breakLink_pending]

theorem whileRunning_of_same {f : State → State} {s : State} (h : f s = s) : s.whileRunning f = s := by
  rw [State.whileRunning, h, ite_self]

/-- Settles O30: a break by the receiver's state and the RESET reply, and what RXD held low leaves without effect. -/
theorem breakAndItsEnd : Obligations.BreakAndItsEnd := by
  refine ⟨fun rate s hrun hrxd hlisten => ?_, fun rate s t hrun hrxd hlisten hwake => ?_, fun rate c s hlow => ⟨?_, ?_, ?_⟩,
    fun s hrun => ?_⟩
  · rw [exec_breakDetected hrun hrxd hlisten, ← resetReplyPending_iff, ← rateOfLevel_eq]
    exact ⟨fun hno => congrArg _ (if_neg hno), fun htaken hpending => congrArg _ (if_pos ⟨htaken, hpending⟩)⟩
  · have hwoken : exec .wake s = .next s.wakeByStartBit := by
      simp only [exec, execWake, whileRunning_of_running hrun, State.takeStartBit, hrxd, hlisten]
      rfl
    obtain rfl := Host.Outcome.next.inj (hwoken.symm.trans hwake)
    exact exec_breakDetected_of_wakeListen hrun hrxd hlisten rate
  · exact congrArg _ (whileRunning_of_same (f := State.receiveBreak rate) (if_pos hlow))
  · exact congrArg _ (whileRunning_of_same (f := State.receiveCharacter c) (if_pos hlow))
  · have hmay : s.mayTransmit = false := by simp [State.mayTransmit, hlow]
    simp only [exec, execArbiterChoice, State.arbiter, hmay]
    rfl
  · simp only [exec, execBreakEnd, whileRunning_of_running hrun]

/-! ### The duplicate -/

/-- Settles O24: DUPLICATE where the frame taken is the remembered one. -/
theorem duplicateAnswered : Obligations.DuplicateAnswered := by
  intro s f m htakes hmemory hsame
  obtain ⟨hseq, hkind, hcrc⟩ := hsame
  have hduplicate : s.link.isDuplicate f = true := by simp [Link.isDuplicate, hmemory, hseq, hkind, hcrc]
  have htake := frameToTake_eq_some.2 htakes
  simp only [exec, execDuplicate, State.answerDuplicate]
  split
  · next f' m' htake' hmemory' =>
    obtain rfl := Option.some.inj (htake.symm.trans htake')
    obtain rfl := Option.some.inj (hmemory.symm.trans hmemory')
    rw [if_pos hduplicate]
    rfl
  · next hnone => exact (hnone f m htake hmemory).elim

end Sys2Proof.Machine
end

section
/-! PROOFS. The answers of the request executor (R156, R157, R168 to R170): every request's own part refuses its frame or accepts it,
and what lies between leaves the frames, the replies and the notices' numbers of the link alone. -/

namespace Sys2Proof.Machine

/-! ### What leaves the link's traffic alone -/

/-- What of the link the frames, the replies and the numbers of the notices stand in (R155 to R158, R160). -/
structure Traffic where
  holding : List Frame
  memory : Option Remembered
  replies : List Reply
  noticeSeq : Byte
  noticesSent : Word32

def Link.traffic (l : Link) : Traffic := ⟨l.holding, l.memory, l.replies, l.noticeSeq, l.counters.noticesSent⟩

/-- The part runs on with the traffic as it was; the receiver stays active, and RESET taken stays set. -/
structure Undisturbed (s t : State) : Prop where
  running : s.phase = .running → t.phase = .running
  traffic : t.link.traffic = s.link.traffic
  receiver : s.link.rxState ≠ .inactive → t.link.rxState ≠ .inactive
  taken : s.link.resetTaken = true → t.link.resetTaken = true

theorem Undisturbed.of_link {s t : State} (hphase : t.phase = s.phase) (hlink : t.link = s.link) : Undisturbed s t where
  running h := hphase.trans h
  traffic := congrArg Link.traffic hlink
  receiver := hlink ▸ id
  taken := hlink ▸ id

theorem Undisturbed.refl (s : State) : Undisturbed s s := .of_link rfl rfl

theorem Undisturbed.trans {s t u : State} (h : Undisturbed s t) (k : Undisturbed t u) : Undisturbed s u where
  running hs := k.running (h.running hs)
  traffic := k.traffic.trans h.traffic
  receiver hs := k.receiver (h.receiver hs)
  taken hs := k.taken (h.taken hs)

/-- What changes neither the phase nor the link may go before. -/
theorem Undisturbed.of_same_link {s t u : State} (h : Undisturbed t u) (hphase : t.phase = s.phase)
    (hlink : t.link = s.link) : Undisturbed s u :=
  (Undisturbed.of_link hphase hlink).trans h

theorem Undisturbed.latched {s u : State} {ks : List AlertKey} (h : Undisturbed s u) : Undisturbed s (latched ks u) :=
  h.trans ⟨id, rfl, id, id⟩

theorem Undisturbed.latch {s u : State} {k : AlertKey} (h : Undisturbed s u) : Undisturbed s (u.latch k) :=
  latch_eq_latched k u ▸ h.latched

theorem Undisturbed.renewAlert {s u : State} (h : Undisturbed s u) : Undisturbed s u.renewAlert := by
  unfold State.renewAlert
  split_ifs
  · exact h
  · exact h.trans ⟨id, rfl, id, id⟩

theorem undisturbed_applyBatch (b : Batch) (s : State) : Undisturbed s (s.applyBatch b) := by
  rw [applyBatch_eq_latched]
  exact ⟨id, rfl, id, id⟩

theorem undisturbed_boundary (s : State) : Undisturbed s s.boundary := by
  rcases boundary_cases s with ⟨-, h⟩ | ⟨b, -, h⟩ <;> rw [h]
  · exact .refl s
  · exact undisturbed_applyBatch b s

theorem leaveWakeListen_active {r : RxState} (h : r ≠ .inactive) : r.leaveWakeListen ≠ .inactive := by
  unfold RxState.leaveWakeListen
  split_ifs
  · nofun
  · exact h

theorem undisturbed_enterStandby (s : State) : Undisturbed s s.enterStandby :=
  Undisturbed.trans (t := s.restEngine) ⟨id, rfl, leaveWakeListen_active, id⟩
    ((undisturbed_boundary s.restEngine).trans (.of_link rfl rfl))

/-! ### The own part of each request -/

/-- The part of a request that follows the common checks (R168). -/
def ownPart : RequestKind → Frame → State → State
  | .hello => ownHello
  | .getState => ownGetState
  | .reset => ownReset
  | .stage => ownStage
  | .discard => ownDiscard
  | .seal => ownSeal
  | .readConfig => ownReadConfig
  | .start => ownStart
  | .stop => ownStop
  | .abort => ownAbort
  | .retrack => ownRetrack
  | .readTracker => ownReadTracker
  | .readResults => ownReadResults
  | .subscribe => ownSubscribe
  | .unsubscribe => ownUnsubscribe
  | .listSubscriptions => ownListSubscriptions
  | .grant => ownGrant
  | .ackAlerts => ownAckAlerts
  | .readAlerts => ownReadAlerts
  | .readCounters => ownReadCounters

/-- The command of a request is the executor's step with that request's own part. -/
theorem exec_request (k : RequestKind) (s : State) : exec k.command s = .next (s.execute k (ownPart k)) := by
  cases k <;> rfl

/-- A request's own part refuses the frame, or takes effect without touching the traffic and then accepts it (R168 to R170). -/
inductive OwnAnswer (k : RequestKind) (f : Frame) (s : State) : State → Prop
  | refused (r : Rejection) : OwnAnswer k f s (s.refuse k f r)
  | accepted (u : State) (contents : List Byte) (kept : Undisturbed s u) : OwnAnswer k f s (u.accept k f contents)

section
variable {k : RequestKind} {f : Frame} {s : State}

/-- A request that only reads. -/
theorem OwnAnswer.read (contents : List Byte) : OwnAnswer k f s (s.accept k f contents) := .accepted s contents (.refl s)

theorem ownAnswer_hello : OwnAnswer .hello f s (ownHello f s) := by
  unfold ownHello
  split
  · exact .refused _
  · rw [renewAlert_accept]
    exact .accepted _ _ (Undisturbed.renewAlert ⟨id, rfl, id, id⟩)

theorem ownAnswer_reset : OwnAnswer .reset f s (ownReset f s) :=
  .accepted { s with link := { s.link with resetTaken := true } } [] ⟨id, rfl, id, fun _ => rfl⟩

theorem ownAnswer_stage : OwnAnswer .stage f s (ownStage f s) := by
  unfold ownStage
  split
  · exact .refused _
  · dsimp only
    split_ifs
    · exact .refused _
    · exact .accepted _ _ (.of_link rfl rfl)

theorem ownAnswer_seal : OwnAnswer .seal f s (ownSeal f s) := by
  unfold ownSeal
  split
  · exact .refused _
  · dsimp only
    split_ifs
    · exact .accepted _ _ ((undisturbed_applyBatch _ _).of_same_link rfl rfl)
    · exact .accepted _ _ (.of_link rfl rfl)

theorem ownAnswer_readConfig : OwnAnswer .readConfig f s (ownReadConfig f s) := by
  unfold ownReadConfig
  split
  · exact .refused _
  · exact .read _

theorem ownAnswer_start : OwnAnswer .start f s (ownStart f s) := by
  unfold ownStart
  split
  · exact .refused _
  · exact .accepted _ _ (.of_link rfl rfl)

theorem ownAnswer_stop : OwnAnswer .stop f s (ownStop f s) := by
  refine .accepted s.stopRun _ ?_
  rcases stopRun_cases s with h | h | h <;> rw [h]
  · exact .refl s
  · exact .of_link rfl rfl
  · exact undisturbed_enterStandby s

theorem ownAnswer_abort : OwnAnswer .abort f s (ownAbort f s) := by
  refine .accepted s.abortRun _ ?_
  rcases abortRun_cases s with h | h | h <;> rw [h]
  · exact .refl s
  · exact undisturbed_enterStandby s
  · exact (undisturbed_enterStandby s.abortScan).of_same_link rfl rfl

theorem ownAnswer_retrack : OwnAnswer .retrack f s (ownRetrack f s) := by
  unfold ownRetrack
  split
  · exact .refused _
  · exact .accepted _ _ (.of_link rfl rfl)

theorem ownAnswer_readTracker : OwnAnswer .readTracker f s (ownReadTracker f s) := by
  unfold ownReadTracker
  split
  · exact .refused _
  · exact .read _

theorem ownAnswer_readResults : OwnAnswer .readResults f s (ownReadResults f s) := by
  unfold ownReadResults
  split
  · exact .refused _
  · exact .read _

theorem ownAnswer_subscribe : OwnAnswer .subscribe f s (ownSubscribe f s) := by
  unfold ownSubscribe
  split
  · exact .refused _
  · exact .accepted _ _ (.of_link rfl rfl)

theorem ownAnswer_unsubscribe : OwnAnswer .unsubscribe f s (ownUnsubscribe f s) := by
  unfold ownUnsubscribe
  split
  · split_ifs
    · exact .accepted _ _ (.of_link rfl rfl)
    · exact .refused _
  · exact .refused _

theorem ownAnswer_listSubscriptions : OwnAnswer .listSubscriptions f s (ownListSubscriptions f s) := by
  unfold ownListSubscriptions
  split
  · split_ifs
    · exact .refused _
    · exact .read _
  · exact .refused _

theorem ownAnswer_grant : OwnAnswer .grant f s (ownGrant f s) := by
  unfold ownGrant
  split
  · split_ifs
    · exact .refused _
    · exact .accepted _ _ (.of_link rfl rfl)
  · exact .refused _

theorem ownAnswer_ackAlerts : OwnAnswer .ackAlerts f s (ownAckAlerts f s) := by
  unfold ownAckAlerts
  dsimp only
  split
  · exact .refused _
  · rw [renewAlert_accept]
    exact .accepted _ _ (Undisturbed.renewAlert ⟨id, rfl, id, id⟩)

theorem ownAnswer_readAlerts : OwnAnswer .readAlerts f s (ownReadAlerts f s) := by
  unfold ownReadAlerts
  split
  · split_ifs
    · exact .refused _
    · exact .read _
  · exact .refused _

/-- Every request's own part answers its frame. -/
theorem ownPart_answers : OwnAnswer k f s (ownPart k f s) :=
  match k with
  | .hello => ownAnswer_hello
  | .getState => .read _
  | .reset => ownAnswer_reset
  | .stage => ownAnswer_stage
  | .discard => .accepted { s with store := { s.store with staging := [] } } _ (.of_link rfl rfl)
  | .seal => ownAnswer_seal
  | .readConfig => ownAnswer_readConfig
  | .start => ownAnswer_start
  | .stop => ownAnswer_stop
  | .abort => ownAnswer_abort
  | .retrack => ownAnswer_retrack
  | .readTracker => ownAnswer_readTracker
  | .readResults => ownAnswer_readResults
  | .subscribe => ownAnswer_subscribe
  | .unsubscribe => ownAnswer_unsubscribe
  | .listSubscriptions => ownAnswer_listSubscriptions
  | .grant => ownAnswer_grant
  | .ackAlerts => ownAnswer_ackAlerts
  | .readAlerts => ownAnswer_readAlerts
  | .readCounters => .read _

/-- So does the request as a whole: the common checks before the own part can only refuse (R168). -/
theorem runRequest_answers : OwnAnswer k f s (s.runRequest k (ownPart k) f) := by
  unfold State.runRequest
  split_ifs
  · exact .refused _
  · exact .refused _
  · exact ownPart_answers

/-- A frame that the executor executes is taken from the holding and answered (R156). -/
theorem execute_answers (hexecutes : Executes f s) (hkind : f.kind = k.code) :
    ∃ t, exec k.command s = .next t ∧ OwnAnswer k f s.takeHead t :=
  ⟨_, (exec_request k s).trans (congrArg _ (execute_of_executes hexecutes hkind)), runRequest_answers⟩

end

/-- Settles O25: a frame executed is answered, and an answer that is not OK is a refusal, which only answers. -/
theorem refusalsChangeNothing : Obligations.RefusalsChangeNothing := by
  intro k s f hexecutes hkind
  obtain ⟨t, hexec, hanswer⟩ := execute_answers hexecutes hkind
  have hreply : f.kind + 0x80 = k.replyCode := congrArg (· + 0x80) hkind
  rw [hreply]
  cases hanswer with
  | refused r => exact ⟨_, r.status.code, [byteOf r.check, byteOf r.index], hexec, rfl, rfl, fun _ => rfl⟩
  | accepted u contents kept =>
    exact ⟨_, 0, contents, hexec, congrArg (· ++ _) (congrArg Traffic.replies kept.traffic), rfl, fun h => absurd rfl h⟩

end Sys2Proof.Machine
end

section
/-! PROOFS. What each command does to the link (R152, R156 to R160, R162, R163): it keeps the laws of the link with the duplicate
memory and RESET taken, or it resets the part, or it executes a request. The statements about every command follow. -/

namespace Sys2Proof.Machine

/-! ### The laws of the link -/

/-- The next notice's number is notices_sent modulo 256 (R160). -/
def NoticesNumbered (s : State) : Prop := s.link.noticeSeq = s.link.counters.noticesSent.setWidth 8

/-- What every command keeps that does not reset the part (R156, R158, R160). -/
structure KeepsLinkLaws (s t : State) : Prop where
  running : s.phase = .running → t.phase = .running
  bounds : LinkLaw s → LinkLaw t
  numbered : NoticesNumbered s → NoticesNumbered t
  receiver : s.link.rxState ≠ .inactive → t.link.rxState ≠ .inactive

/-- The laws are kept, and the executor has executed no frame: the duplicate memory is as it was, and RESET taken is not cleared
(R156, R157). -/
structure LinkKept (s t : State) : Prop extends KeepsLinkLaws s t where
  memory : t.link.memory = s.link.memory
  taken : s.link.resetTaken = true → t.link.resetTaken = true

/-- The frame is executed: the answer takes its place in the reply queue and in the duplicate memory (R156, R157). -/
structure AnswersFrame (f : Frame) (s t : State) : Prop where
  executes : Executes f s
  laws : KeepsLinkLaws s t
  holding : t.link.holding = s.link.holding.tail
  memory : ∃ r, t.link.memory = some ⟨f.seq, f.kind, f.crc, r⟩

/-- A part that does not run, every block at its reset values (R162). -/
structure HeldAtReset (t : State) : Prop where
  stopped : t.phase ≠ .running
  held : t = atReset t.pending t.phase t.link.resetCause t.link.rate

/-- All that a command can do to the link. -/
inductive LinkEffect (c : Instr) (s t : State) : Prop
  | kept (h : LinkKept s t)
  | reset (h : HeldAtReset t)
  | executed (command : RequestCommand c) (f : Frame) (h : AnswersFrame f s t)

theorem numbered_of_traffic {s t : State} (h : t.link.traffic = s.link.traffic) : NoticesNumbered s → NoticesNumbered t := by
  obtain ⟨-, -, -, hseq, hsent⟩ := Traffic.mk.inj h
  intro hs
  rw [NoticesNumbered, hseq, hsent]
  exact hs

theorem KeepsLinkLaws.trans {s t u : State} (h : KeepsLinkLaws s t) (k : KeepsLinkLaws t u) : KeepsLinkLaws s u where
  running hs := k.running (h.running hs)
  bounds hs := k.bounds (h.bounds hs)
  numbered hs := k.numbered (h.numbered hs)
  receiver hs := k.receiver (h.receiver hs)

theorem LinkKept.trans {s t u : State} (h : LinkKept s t) (k : LinkKept t u) : LinkKept s u where
  toKeepsLinkLaws := h.toKeepsLinkLaws.trans k.toKeepsLinkLaws
  memory := k.memory.trans h.memory
  taken hs := k.taken (h.taken hs)

theorem Undisturbed.linkKept {s t : State} (h : Undisturbed s t) : LinkKept s t := by
  obtain ⟨hholding, hmemory, hreplies, -, -⟩ := Traffic.mk.inj h.traffic
  exact
    { running := h.running
      bounds := fun hs => ⟨hholding ▸ hs.holding, hreplies ▸ hs.replies⟩
      numbered := numbered_of_traffic h.traffic
      receiver := h.receiver
      memory := hmemory
      taken := h.taken }

theorem LinkKept.refl (s : State) : LinkKept s s := (Undisturbed.refl s).linkKept

theorem LinkKept.of_link {s t : State} (hphase : t.phase = s.phase) (hlink : t.link = s.link) : LinkKept s t :=
  (Undisturbed.of_link hphase hlink).linkKept

/-- What changes neither the phase nor the link may go before. -/
theorem LinkKept.of_same_link {s t u : State} (h : LinkKept t u) (hphase : t.phase = s.phase) (hlink : t.link = s.link) :
    LinkKept s u :=
  (LinkKept.of_link hphase hlink).trans h

theorem LinkKept.latched {s u : State} {ks : List AlertKey} (h : LinkKept s u) : LinkKept s (latched ks u) :=
  h.trans (Undisturbed.refl u).latched.linkKept

/-! ### Requests -/

section
variable {k : RequestKind} {f : Frame} {s t : State}

/-- The executor takes a frame only where its reply has a place (R156). -/
theorem Takes.room_for_reply (h : Takes f s) {replies : List Reply} (hsame : replies = s.link.replies) (r : Reply) :
    (replies ++ [r]).length ≤ 2 := by
  rw [hsame, List.length_append]
  exact h.room

/-- A queue of at most two stays one when its head leaves. -/
theorem tail_length_le_two {α : Type} {xs : List α} (h : xs.length ≤ 2) : xs.tail.length ≤ 2 := by
  rw [List.length_tail]
  exact (Nat.sub_le _ 1).trans h

theorem LinkLaw.holding_tail (h : LinkLaw s) : s.link.holding.tail.length ≤ 2 := tail_length_le_two h.holding

theorem OwnAnswer.answersFrame (h : OwnAnswer k f s.takeHead t) (hexecutes : Executes f s) : AnswersFrame f s t := by
  have hroom {replies : List Reply} : replies = s.link.replies → ∀ r, (replies ++ [r]).length ≤ 2 :=
    hexecutes.takes.room_for_reply
  cases h with
  | refused r => exact ⟨hexecutes, ⟨id, fun hs => ⟨hs.holding_tail, hroom rfl _⟩, id, id⟩, rfl, _, rfl⟩
  | accepted u contents kept =>
    obtain ⟨hholding, -, hreplies, -, -⟩ := Traffic.mk.inj kept.traffic
    have hnumbered : NoticesNumbered s.takeHead → NoticesNumbered u := numbered_of_traffic kept.traffic
    have hheld (hs : LinkLaw s) : u.link.holding.length ≤ 2 := hholding ▸ hs.holding_tail
    exact ⟨hexecutes, ⟨kept.running, fun hs => ⟨hheld hs, hroom hreplies _⟩, hnumbered, kept.receiver⟩, hholding, _, rfl⟩

/-- A request command does nothing or executes a frame. -/
theorem execute_idles_or_answers (k : RequestKind) (s : State) :
    s.execute k (ownPart k) = s ∨ ∃ f, AnswersFrame f s (s.execute k (ownPart k)) := by
  rcases execute_cases k (ownPart k) s with h | ⟨f, hexecutes, -, ⟨-, h⟩ | ⟨r, -, h⟩⟩
  · exact .inl h
  · exact .inr ⟨f, h ▸ ownPart_answers.answersFrame hexecutes⟩
  · exact .inr ⟨f, h ▸ (OwnAnswer.refused r).answersFrame hexecutes⟩

theorem executeUnknown_idles_or_answers (s : State) :
    s.executeUnknown = s ∨ ∃ f, AnswersFrame f s s.executeUnknown := by
  rcases executeUnknown_cases s with h | ⟨f, hexecutes, -, h⟩
  · exact .inl h
  · have hbounds (hs : LinkLaw s) : LinkLaw (answered f 0xFF [0x02, 0, 0xFF] s) :=
      ⟨hs.holding_tail, hexecutes.takes.room_for_reply rfl _⟩
    exact .inr ⟨f, h ▸ ⟨hexecutes, ⟨id, hbounds, id, id⟩, rfl, _, rfl⟩⟩

/-- Every request command, UNKNOWN_KIND with them, does nothing or executes a frame. -/
theorem request_idles_or_answers {c : Instr} (hcommand : RequestCommand c) (hexec : exec c s = .next t) :
    t = s ∨ ∃ f, AnswersFrame f s t := by
  rcases hcommand with rfl | ⟨k, rfl⟩
  · obtain rfl := Host.Outcome.next.inj hexec
    exact executeUnknown_idles_or_answers s
  · obtain rfl := Host.Outcome.next.inj ((exec_request k s).symm.trans hexec)
    exact execute_idles_or_answers k s

theorem linkEffect_execute {c : Instr} (hcommand : c = k.command) : LinkEffect c s (s.execute k (ownPart k)) := by
  rcases execute_idles_or_answers k s with h | ⟨f, h⟩
  · exact .kept (h.symm ▸ LinkKept.refl s)
  · exact .executed (.inr ⟨k, hcommand⟩) f h

theorem linkEffect_unknown : LinkEffect .unknownKind s s.executeUnknown := by
  rcases executeUnknown_idles_or_answers s with h | ⟨f, h⟩
  · exact .kept (h.symm ▸ LinkKept.refl s)
  · exact .executed (.inl rfl) f h

theorem linkKept_duplicate : LinkKept s s.answerDuplicate := by
  rcases answerDuplicate_cases s with h | ⟨f, m, htakes, -, -, h⟩ <;> rw [h]
  · exact .refl s
  · exact ⟨⟨id, fun hs => ⟨hs.holding_tail, htakes.room_for_reply rfl _⟩, id, id⟩, rfl, id⟩

end

/-! ### Events of the link -/

section
variable {s : State}

theorem linkEffect_whileRunning {c : Instr} {f : State → State} (h : LinkEffect c s (f s)) :
    LinkEffect c s (s.whileRunning f) := by
  unfold State.whileRunning
  split_ifs
  · exact h
  · exact .kept (.refl s)

theorem linkKept_arrival {f : RxFrame} {high low : Byte} : LinkKept s (s.arrival f high low) := by
  by_cases hcrc : (high ++ low : Word16) = f.crc
  · rcases Nat.lt_or_ge s.link.holding.length 2 with hroom | hfull
    · rw [arrival_of_room hcrc hroom]
      have hheld : (s.link.holding ++ [f.frame]).length ≤ 2 := by
        rw [List.length_append]
        exact hroom
      exact ⟨⟨id, fun hs => ⟨hheld, hs.replies⟩, id, nofun⟩, rfl, id⟩
    · rw [arrival_of_full hcrc hfull]
      exact Undisturbed.linkKept ⟨id, rfl, nofun, id⟩
  · rw [arrival_of_badCrc hcrc]
    exact Undisturbed.linkKept ⟨id, rfl, nofun, id⟩

theorem undisturbed_setReceiver {r : RxState} {f : Option RxFrame} (h : r ≠ .inactive) : Undisturbed s (s.setReceiver r f) :=
  ⟨id, rfl, fun _ => h, id⟩

theorem undisturbed_lengthFault : Undisturbed s s.lengthFault :=
  lengthFault_eq_latched s ▸ ⟨id, rfl, nofun, id⟩

theorem undisturbed_timeoutFrame : Undisturbed s s.timeoutFrame :=
  timeoutFrame_eq_latched s ▸ ⟨id, rfl, nofun, id⟩

theorem undisturbed_headerByte {f : RxFrame} {b : Byte} : Undisturbed s (s.headerByte f b) := by
  unfold State.headerByte
  dsimp only
  split
  · split_ifs
    · exact undisturbed_lengthFault
    · exact undisturbed_setReceiver (by decide)
  · exact undisturbed_setReceiver (by decide)
  · split_ifs <;> exact undisturbed_setReceiver (by decide)

theorem undisturbed_bodyByte {f : RxFrame} {b : Byte} : Undisturbed s (s.bodyByte f b) := by
  unfold State.bodyByte
  dsimp only
  split_ifs <;> exact undisturbed_setReceiver (by decide)

theorem linkKept_checkByte {f : RxFrame} {b : Byte} : LinkKept s (s.checkByte f b) := by
  unfold State.checkByte
  split
  · exact (undisturbed_setReceiver (by decide)).linkKept
  · exact linkKept_arrival

theorem linkKept_receiveByte {b : Byte} : LinkKept s (s.receiveByte b) := by
  unfold State.receiveByte
  dsimp only
  cases s.link.rxState with
  | inactive | wakeListen | wakeQuiet => exact .refl s
  | hunt =>
    dsimp only
    split_ifs
    · exact (undisturbed_setReceiver (by decide)).linkKept
    · exact .refl s
  | sync =>
    dsimp only
    split_ifs
    · exact (undisturbed_setReceiver (by decide)).linkKept
    · exact .refl s
    · exact (undisturbed_setReceiver (by decide)).linkKept
  | header => exact undisturbed_headerByte.linkKept
  | body => exact undisturbed_bodyByte.linkKept
  | check => exact linkKept_checkByte

theorem undisturbed_characterEnds : Undisturbed s s.characterEnds := ⟨id, rfl, id, id⟩

theorem linkKept_receiveCharacter {ch : Character} : LinkKept s (s.receiveCharacter ch) := by
  have hends : LinkKept s s.characterEnds := undisturbed_characterEnds.linkKept
  unfold State.receiveCharacter
  split_ifs
  · exact .refl s
  · cases ch with
    | byte b => exact hends.trans linkKept_receiveByte
    | framingError late =>
      dsimp only [State.framingError]
      split_ifs
      · exact hends.trans undisturbed_timeoutFrame.linkKept
      · exact hends

theorem undisturbed_characterTimesOut : Undisturbed s s.characterTimesOut := by
  unfold State.characterTimesOut
  split_ifs
  · exact undisturbed_timeoutFrame
  · exact .refl s

theorem undisturbed_wakeByStartBit : Undisturbed s s.wakeByStartBit := ⟨id, rfl, nofun, id⟩

theorem undisturbed_takeStartBit : Undisturbed s s.takeStartBit := by
  unfold State.takeStartBit
  split_ifs
  · exact .refl s
  · cases s.link.rxState with
    | wakeListen => exact undisturbed_wakeByStartBit
    | wakeQuiet | inactive => exact .refl s
    | hunt | sync | header | body | check => exact ⟨id, rfl, id, id⟩

/-- A break empties the two queues of the link (R152). -/
theorem linkKept_breakLink : LinkKept s s.breakLink := by
  have hactive : s.breakLink.link.rxState ≠ .inactive := by
    dsimp only [State.breakLink]
    split_ifs <;> nofun
  exact ⟨⟨id, fun _ => ⟨Nat.zero_le 2, Nat.zero_le 2⟩, id, fun _ => hactive⟩, rfl, id⟩

theorem heldAtReset_requestedReset {rate : Level} : HeldAtReset (s.requestedReset rate) := ⟨nofun, rfl⟩

theorem linkEffect_receiveBreak {c : Instr} {rate : Level} : LinkEffect c s (s.receiveBreak rate) := by
  unfold State.receiveBreak
  split_ifs
  · exact .kept (.refl s)
  all_goals dsimp only; split_ifs
  · exact .reset heldAtReset_requestedReset
  · exact .kept (undisturbed_wakeByStartBit.linkKept.trans linkKept_breakLink)
  · exact .reset heldAtReset_requestedReset
  · exact .kept linkKept_breakLink

theorem linkEffect_endTransmission {c : Instr} {rate : Level} : LinkEffect c s (s.endTransmission rate) := by
  unfold State.endTransmission
  split
  · exact .kept (.refl s)
  · dsimp only
    split_ifs
    · exact .reset heldAtReset_requestedReset
    · exact .kept (Undisturbed.linkKept ⟨id, rfl, id, id⟩)

/-- A notice takes the number and counts itself, and both go up by one (R160). -/
theorem linkKept_beginNotice {kind : Byte} {body : List Byte} : LinkKept s (s.beginNotice kind body) := by
  have hnumbered (hs : NoticesNumbered s) :
      s.link.noticeSeq + 1 = (s.link.counters.noticesSent + 1).setWidth 8 := by
    rw [BitVec.setWidth_add _ _ (by decide), ← show s.link.noticeSeq = _ from hs]
    rfl
  exact ⟨⟨id, fun hs => ⟨hs.holding, hs.replies⟩, hnumbered, id⟩, rfl, id⟩

theorem linkKept_beginChoice {choice : Choice} : LinkKept s (s.beginChoice choice) := by
  cases choice with
  | reply r =>
    exact ⟨⟨id, fun hs => ⟨hs.holding, tail_length_le_two hs.replies⟩, id, id⟩, rfl, id⟩
  | ready cause =>
    have hleaves : LinkKept s { s with link := { s.link with readyNotice := none } } :=
      Undisturbed.linkKept ⟨id, rfl, id, id⟩
    exact hleaves.trans linkKept_beginNotice
  | alert =>
    have hleaves : LinkKept s { s with link := { s.link with alertNotice := false } } :=
      Undisturbed.linkKept ⟨id, rfl, id, id⟩
    exact hleaves.trans linkKept_beginNotice
  | report o =>
    exact linkKept_beginNotice.of_same_link rfl rfl

theorem linkKept_arbiter : LinkKept s s.arbiter := by
  rcases arbiter_cases s with h | ⟨choice, -, -, -, -, h⟩ <;> rw [h]
  · exact .refl s
  · exact linkKept_beginChoice

/-! ### Resets -/

theorem heldAtReset_powerOn {resetN rate : Level} : HeldAtReset (s.powerOn resetN rate) := by
  cases resetN with
  | high | low => exact ⟨nofun, rfl⟩

theorem resetNLow_stays_or_resets (s : State) : s.resetNLow = s ∨ HeldAtReset s.resetNLow := by
  unfold State.resetNLow
  split
  · exact .inl rfl
  · exact .inr ⟨nofun, rfl⟩
  · exact .inr ⟨nofun, rfl⟩

theorem linkEffect_resetNLow {c : Instr} : LinkEffect c s s.resetNLow := by
  rcases resetNLow_stays_or_resets s with h | h
  · exact .kept (h.symm ▸ LinkKept.refl s)
  · exact .reset h

theorem linkKept_resetNHigh {rate : Level} : LinkKept s (s.resetNHigh rate) := by
  unfold State.resetNHigh
  split
  · next cause hphase => exact Undisturbed.linkKept ⟨fun hrun => (nomatch hphase.symm.trans hrun), rfl, id, id⟩
  · exact .refl s
  · exact .refl s

theorem linkKept_endStartUp : LinkKept s s.endStartUp := by
  unfold State.endStartUp
  split
  · exact Undisturbed.linkKept ⟨fun _ => rfl, rfl, nofun, id⟩
  · exact .refl s
  · exact .refl s

/-! ### Events of the scan engine -/

theorem undisturbed_scanStart : Undisturbed s s.scanStart := by
  have hbegins : Undisturbed s.countScan s.scanStart := (undisturbed_boundary s.countScan).trans (.of_link rfl rfl)
  exact hbegins.of_same_link rfl rfl

theorem linkKept_setRunState {r : RunState} : LinkKept s (s.setRunState r) := .of_link rfl rfl

theorem undisturbed_enterSettling : Undisturbed s s.enterSettling := ⟨id, rfl, leaveWakeListen_active, id⟩

theorem undisturbed_overrun : Undisturbed s s.overrun := Undisturbed.latch (.of_link rfl rfl)

theorem undisturbed_missTrigger : Undisturbed s s.missTrigger := Undisturbed.latch (.of_link rfl rfl)

theorem undisturbed_overcurrent {g : Group} : Undisturbed s (s.overcurrent g) := by
  unfold State.overcurrent
  split_ifs
  · exact Undisturbed.latch (.of_link rfl rfl)
  · exact .refl s

theorem undisturbed_armingSettled : Undisturbed s s.armingSettled := by
  unfold State.armingSettled
  split
  · dsimp only
    split
    · exact undisturbed_scanStart.of_same_link rfl rfl
    · exact .of_link rfl rfl
  · exact .refl s

theorem undisturbed_wakeSettled : Undisturbed s s.wakeSettled := by
  unfold State.wakeSettled
  split
  · exact undisturbed_scanStart.of_same_link rfl rfl
  · exact .refl s

theorem undisturbed_onExpiry : Undisturbed s s.onExpiry := by
  unfold State.onExpiry
  cases s.engine.runState with
  | waiting => exact undisturbed_scanStart
  | doze => exact undisturbed_enterSettling
  | settling | scanning => exact undisturbed_overrun
  | draining | standby | arming => exact .refl s

theorem undisturbed_timerExpires : Undisturbed s s.timerExpires := by
  unfold State.timerExpires
  split
  · exact .refl s
  · exact undisturbed_onExpiry.of_same_link rfl rfl

theorem undisturbed_onTrigger : Undisturbed s s.onTrigger := by
  unfold State.onTrigger
  cases s.engine.mode with
  | free => exact .refl s
  | triggered =>
    cases s.engine.runState with
    | waiting => exact undisturbed_scanStart
    | doze => exact undisturbed_enterSettling
    | arming | settling | scanning | draining => exact undisturbed_missTrigger
    | standby => exact .refl s

theorem undisturbed_takeTrigger : Undisturbed s s.takeTrigger := by
  unfold State.takeTrigger
  split
  · exact .refl s
  · exact undisturbed_onTrigger.of_same_link rfl rfl

theorem undisturbed_enterDoze : Undisturbed s s.enterDoze := ⟨id, rfl, nofun, id⟩

/-! ### Conversions -/

/-- The arbiter may begin frames between the records that arrive (R118). -/
theorem linkKept_completed {choice : Option Nat} : LinkKept s (s.completed choice) := by
  rw [completed_eq choice s rfl]
  have hbegun : LinkKept s (s.completionBegun (.ofFn s.newResult)) := LinkKept.latched (.of_link rfl rfl)
  have harrive (r : ReportRecord) (u : State) (hu : LinkKept s u) : LinkKept s (u.arrive r) := by
    rw [arrive_eq_latched]
    exact LinkKept.latched (hu.trans (.of_link rfl rfl))
  have harrived := arriveAll_induction (p := LinkKept s) choice harrive (fun _ hu => hu.trans linkKept_arbiter)
    (recordsMade (.ofFn s.newResult) s.subs) 0 _ hbegun
  exact harrived.trans (.of_link rfl rfl)

theorem linkKept_completeScan {choice : Option Nat} : LinkKept s (s.completeScan choice) := by
  rw [completeScan_eq]
  split_ifs
  · exact linkKept_completed.trans linkKept_setRunState
  · exact linkKept_completed.trans (undisturbed_enterStandby _).linkKept

theorem linkKept_endSlot {choice : Option Nat} {sl : SlotInFlight} : LinkKept s (s.endSlot choice sl) := by
  unfold State.endSlot
  dsimp only
  split
  · exact .of_link rfl rfl
  · exact linkKept_completeScan.of_same_link rfl rfl

theorem linkKept_conversionEnds {code : BitVec 24} {senseGood : Bool} {choice : Option Nat} :
    LinkKept s (s.conversionEnds code senseGood choice) := by
  unfold State.conversionEnds
  split
  · exact .refl s
  · split_ifs
    · unfold State.endConversion
      dsimp only
      split
      · exact .of_link rfl rfl
      · exact linkKept_endSlot.of_same_link rfl rfl
    · exact .refl s

/-! ### Every command -/

theorem linkEffect_kept_whileRunning {c : Instr} {f : State → State} (h : LinkKept s (f s)) :
    LinkEffect c s (s.whileRunning f) :=
  linkEffect_whileRunning (.kept h)

theorem linkEffect_undisturbed_whileRunning {c : Instr} {f : State → State} (h : Undisturbed s (f s)) :
    LinkEffect c s (s.whileRunning f) :=
  linkEffect_kept_whileRunning h.linkKept

end

theorem exec_linkEffect {c : Instr} {s t : State} (hexec : exec c s = .next t) : LinkEffect c s t := by
  cases c <;> obtain rfl := Host.Outcome.next.inj hexec
  case hello | getState | reset | stage | discard | readConfig | start | stop | abort | retrack | readTracker | readResults
      | subscribe | unsubscribe | listSubscriptions | grant | ackAlerts | readAlerts | readCounters =>
    exact linkEffect_execute rfl
  case unknownKind => exact linkEffect_unknown
  case duplicate => exact .kept linkKept_duplicate
  case frameArrival b =>
    refine linkEffect_kept_whileRunning ?_
    split_ifs
    · exact undisturbed_characterEnds.linkKept.trans linkKept_receiveByte
    · exact .refl s
  case lengthError b =>
    refine linkEffect_undisturbed_whileRunning ?_
    split_ifs
    · exact undisturbed_characterEnds.trans undisturbed_lengthFault
    · exact .refl s
  case characterTimeout => exact linkEffect_undisturbed_whileRunning undisturbed_characterTimesOut
  case breakDetected rate => exact linkEffect_whileRunning linkEffect_receiveBreak
  case breakEnd => exact linkEffect_undisturbed_whileRunning ⟨id, rfl, id, id⟩
  case wake => exact linkEffect_undisturbed_whileRunning undisturbed_takeStartBit
  case wakeQuietEnd =>
    refine linkEffect_undisturbed_whileRunning ?_
    split_ifs
    · exact undisturbed_setReceiver (by decide)
    · exact .refl s
  case arbiterChoice => exact .kept linkKept_arbiter
  case transmitEnd rate => exact linkEffect_whileRunning linkEffect_endTransmission
  case powerOn resetN rate => exact .reset heldAtReset_powerOn
  case resetNLow => exact linkEffect_resetNLow
  case resetNHigh rate => exact .kept linkKept_resetNHigh
  case startUpEnd => exact .kept linkKept_endStartUp
  case armingSettleEnd => exact linkEffect_undisturbed_whileRunning undisturbed_armingSettled
  case timerExpiry => exact linkEffect_undisturbed_whileRunning undisturbed_timerExpires
  case trigEdge direction => exact linkEffect_undisturbed_whileRunning (.of_link rfl rfl)
  case trigger => exact linkEffect_undisturbed_whileRunning undisturbed_takeTrigger
  case wakeSettleEnd => exact linkEffect_undisturbed_whileRunning undisturbed_wakeSettled
  case syncPulseEnd => exact linkEffect_undisturbed_whileRunning (.of_link rfl rfl)
  case conversionEnd code senseGood choice => exact linkEffect_kept_whileRunning linkKept_conversionEnds
  case dozeEntry =>
    refine linkEffect_undisturbed_whileRunning ?_
    split_ifs
    · exact undisturbed_enterDoze
    · exact .refl s
  case overcurrent g => exact linkEffect_undisturbed_whileRunning undisturbed_overcurrent
  case characterReceived ch => exact linkEffect_kept_whileRunning linkKept_receiveCharacter
  -- SEAL is left, whose constructor's name is a word of Lean and cannot stand after `case`.
  · exact linkEffect_execute rfl

end Sys2Proof.Machine
end

section
/-! PROOFS. The laws of the link and of start-up (R157, R158, R160, R162), and RESET with the reset that follows it (R163, R183). -/

namespace Sys2Proof.Machine

/-- A step idles, or runs the front command with the queue's rest. -/
theorem step_cases {s t : State} (hstep : step s = .next t) :
    t = s ∨ ∃ c rest, s.pending = c :: rest ∧ exec c s.popFront = .next t := by
  unfold step at hstep
  split at hstep
  · exact .inl (Host.Outcome.next.inj hstep).symm
  · next c rest hpending => exact .inr ⟨c, rest, hpending, hstep⟩

/-! ### The laws of the link -/

theorem linkLaws_of_heldAtReset {t : State} (h : HeldAtReset t) : LinkLaw t ∧ NoticesNumbered t := by
  rw [h.held]
  exact ⟨⟨Nat.zero_le 2, Nat.zero_le 2⟩, rfl⟩

theorem exec_keeps_linkLaws {c : Instr} {s t : State} (hexec : exec c s = .next t) :
    (LinkLaw s → LinkLaw t) ∧ (NoticesNumbered s → NoticesNumbered t) := by
  cases exec_linkEffect hexec with
  | kept h => exact ⟨h.bounds, h.numbered⟩
  | reset h =>
    obtain ⟨hbounds, hnumbered⟩ := linkLaws_of_heldAtReset h
    exact ⟨fun _ => hbounds, fun _ => hnumbered⟩
  | executed command f h => exact ⟨h.laws.bounds, h.laws.numbered⟩

/-- Settles O48: every command keeps the bounds and the numbers, and a step runs a command or idles. -/
theorem linkLawKept : Obligations.LinkLawKept := by
  intro s t hstep
  rcases step_cases hstep with rfl | ⟨c, rest, -, hexec⟩
  · exact ⟨id, id⟩
  · obtain ⟨hbounds, hnumbered⟩ := exec_keeps_linkLaws hexec
    exact ⟨fun hs => hbounds ⟨hs.holding, hs.replies⟩, hnumbered⟩

/-! ### The duplicate memory -/

/-- Settles O49: a request command idles or executes a frame, which is fresh; what else runs on keeps the memory. -/
theorem memoryNeverRepeats : Obligations.MemoryNeverRepeats := by
  intro c s t m hexec hmemory
  by_cases hcommand : RequestCommand c
  · refine .inr ?_
    rcases request_idles_or_answers hcommand hexec with rfl | ⟨f, hanswers⟩
    · exact .inl ⟨hmemory, fun _ => rfl⟩
    · obtain ⟨rest, hhead⟩ := List.head?_eq_some_iff.1 hanswers.executes.takes.head
      obtain ⟨r, hremembered⟩ := hanswers.memory
      have hholding : s.link.holding = f :: t.link.holding := by rw [hanswers.holding, hhead, List.tail_cons]
      exact .inr ⟨hcommand, f, _, hholding, hanswers.executes.fresh m hmemory, hremembered, rfl, rfl, rfl⟩
  · cases exec_linkEffect hexec with
    | kept h => exact .inr (.inl ⟨h.memory.trans hmemory, fun hrequest => absurd hrequest hcommand⟩)
    | reset h => exact .inl h.stopped
    | executed command f h => exact absurd command hcommand

/-! ### Reset and start-up -/

/-- All that a command can do to a part that does not run (R162, R184). -/
inductive StoppedEffect (c : Instr) (s t : State) : Prop
  | stays (h : t = s)
  | reset (h : HeldAtReset t)
  | released (cause : ResetCause) (rate : Level) (h : t = s.resetEnds cause rate)
  | started (command : c = .startUpEnd) (hrun : t.phase = .running) (hactive : t.link.rxState ≠ .inactive)

section
variable {c : Instr} {s : State} (hstop : s.phase ≠ .running)
include hstop

theorem StoppedEffect.whileRunning (f : State → State) : StoppedEffect c s (s.whileRunning f) := .stays (if_neg hstop)

/-- A request command that did something would have found the part running. -/
theorem StoppedEffect.request {t : State} (h : t = s ∨ ∃ f, AnswersFrame f s t) : StoppedEffect c s t := by
  rcases h with h | ⟨f, h⟩
  · exact .stays h
  · exact absurd h.executes.takes.running hstop

theorem StoppedEffect.execute (k : RequestKind) : StoppedEffect c s (s.execute k (ownPart k)) :=
  .request hstop (execute_idles_or_answers k s)

theorem StoppedEffect.duplicate : StoppedEffect c s s.answerDuplicate := by
  rcases answerDuplicate_cases s with h | ⟨f, m, htakes, -, -, -⟩
  · exact .stays h
  · exact absurd htakes.running hstop

theorem StoppedEffect.arbiter : StoppedEffect c s s.arbiter := by
  rcases arbiter_cases s with h | ⟨choice, hrun, -, -, -, -⟩
  · exact .stays h
  · exact absurd hrun hstop

end

theorem StoppedEffect.resetNLow {c : Instr} {s : State} : StoppedEffect c s s.resetNLow :=
  (resetNLow_stays_or_resets s).elim .stays .reset

theorem StoppedEffect.resetNHigh {c : Instr} {s : State} (rate : Level) : StoppedEffect c s (s.resetNHigh rate) := by
  unfold State.resetNHigh
  split
  · exact .released _ rate rfl
  · exact .stays rfl
  · exact .stays rfl

theorem StoppedEffect.endStartUp {s : State} : StoppedEffect .startUpEnd s s.endStartUp := by
  unfold State.endStartUp
  split
  · exact .started rfl rfl nofun
  · exact .stays rfl
  · exact .stays rfl

theorem exec_stoppedEffect {c : Instr} {s t : State} (hstop : s.phase ≠ .running) (hexec : exec c s = .next t) :
    StoppedEffect c s t := by
  cases c <;> obtain rfl := Host.Outcome.next.inj hexec
  case hello | getState | reset | stage | discard | readConfig | start | stop | abort | retrack | readTracker | readResults
      | subscribe | unsubscribe | listSubscriptions | grant | ackAlerts | readAlerts | readCounters =>
    exact .execute hstop _
  case unknownKind => exact .request hstop (executeUnknown_idles_or_answers s)
  case duplicate => exact .duplicate hstop
  case arbiterChoice => exact .arbiter hstop
  case powerOn resetN rate => exact .reset heldAtReset_powerOn
  case resetNLow => exact .resetNLow
  case resetNHigh rate => exact .resetNHigh rate
  case startUpEnd => exact .endStartUp
  case frameArrival | lengthError | characterTimeout | breakDetected | breakEnd | wake | wakeQuietEnd | transmitEnd
      | armingSettleEnd | timerExpiry | trigEdge | trigger | wakeSettleEnd | syncPulseEnd | conversionEnd | dozeEntry
      | overcurrent | characterReceived =>
    exact .whileRunning hstop _
  -- SEAL is left, whose constructor's name is a word of Lean and cannot stand after `case`.
  · exact .execute hstop .seal

theorem startUpLaw_of_heldAtReset {t : State} (h : HeldAtReset t) : StartUpLaw t :=
  ⟨fun _ => h.held, fun hrun => absurd hrun h.stopped⟩

theorem startUpLaw_of_running {s : State} (hrun : s.phase = .running) (hactive : s.link.rxState ≠ .inactive) :
    StartUpLaw s :=
  ⟨fun hstop => absurd hrun hstop, fun _ => hactive⟩

/-- The end of a reset samples RATE and sets the cause; the blocks keep their reset values (R162). -/
theorem startUpLaw_resetEnds {s : State} (hstop : s.phase ≠ .running) (h : StartUpLaw s) (cause : ResetCause) (rate : Level) :
    StartUpLaw (s.resetEnds cause rate) :=
  ⟨fun _ => congrArg (State.resetEnds cause rate) (h.held hstop), nofun⟩

/-- A part that runs stays active, or is reset. -/
theorem exec_keeps_startUpLaw_of_running {c : Instr} {s t : State} (hrun : s.phase = .running) (h : StartUpLaw s)
    (hexec : exec c s = .next t) : StartUpLaw t := by
  cases exec_linkEffect hexec with
  | kept hk => exact startUpLaw_of_running (hk.running hrun) (hk.receiver (h.active hrun))
  | reset hr => exact startUpLaw_of_heldAtReset hr
  | executed command f hx => exact startUpLaw_of_running (hx.laws.running hrun) (hx.laws.receiver (h.active hrun))

/-- A part that does not run keeps its reset values until START_UP_END starts it. -/
theorem exec_keeps_startUpLaw_of_stopped {c : Instr} {s t : State} (hstop : s.phase ≠ .running) (h : StartUpLaw s)
    (hexec : exec c s = .next t) : StartUpLaw t ∧ (t.phase = .running → c = .startUpEnd) := by
  cases exec_stoppedEffect hstop hexec with
  | stays ht => exact ht.symm ▸ ⟨h, fun hrun => absurd hrun hstop⟩
  | reset hr => exact ⟨startUpLaw_of_heldAtReset hr, fun hrun => absurd hrun hr.stopped⟩
  | released cause rate ht => exact ht.symm ▸ ⟨startUpLaw_resetEnds hstop h cause rate, nofun⟩
  | started command hrun hactive => exact ⟨startUpLaw_of_running hrun hactive, fun _ => command⟩

/-- Settles O53: by whether the part runs before the step. -/
theorem startUpLawKept : Obligations.StartUpLawKept := by
  intro s t h hstep
  rcases step_cases hstep with rfl | ⟨c, rest, hpending, hexec⟩
  · exact ⟨h, fun hstop hrun => absurd hrun hstop⟩
  · have hpopped : StartUpLaw s.popFront := startUpLaw_popFront h
    by_cases hrun : s.popFront.phase = .running
    · exact ⟨exec_keeps_startUpLaw_of_running hrun hpopped hexec, fun hstop => absurd hrun hstop⟩
    · obtain ⟨hlaw, hstarted⟩ := exec_keeps_startUpLaw_of_stopped hrun hpopped hexec
      exact ⟨hlaw, fun _ hstarts => ⟨rest, hstarted hstarts ▸ hpending⟩⟩

/-! ### RESET taken -/

theorem exec_reset_of_admits {s : State} {f : Frame} (hadm : Admits .reset f s) :
    exec .reset s = .next (answered f 0x83 [0x00] { s with link := { s.link with resetTaken := true } }) :=
  congrArg Host.Outcome.next (execute_of_admits hadm)

/-- With RESET taken set the executor takes no frame, so what does not reset the part keeps the memory (R156). -/
theorem exec_keeps_resetTaken {c : Instr} {s t : State} (htaken : s.link.resetTaken = true) (hexec : exec c s = .next t)
    (hrun : t.phase = .running) : t.link.resetTaken = true ∧ t.link.memory = s.link.memory := by
  cases exec_linkEffect hexec with
  | kept h => exact ⟨h.taken htaken, h.memory⟩
  | reset h => exact absurd hrun h.stopped
  | executed command f h => exact Bool.noConfusion (htaken.symm.trans h.executes.takes.clear)

/-- Settles O7: RESET taken, what keeps it, and the transmission that ends it. -/
theorem resetRequestTaken : Obligations.ResetRequestTaken := by
  refine ⟨fun s f hadm => exec_reset_of_admits hadm, fun s t c htaken hexec hrun => exec_keeps_resetTaken htaken hexec hrun,
    fun rate s f hrun hsending => ?_⟩
  rw [exec_transmitEnd hrun hsending, ← isResetReply_iff, ← rateOfLevel_eq]
  exact ⟨fun hno => congrArg _ (if_neg hno), fun htaken hreply => congrArg _ (if_pos ⟨htaken, hreply⟩)⟩

end Sys2Proof.Machine
end

section
/-! PROOFS. The common checks before a request's own part (R168), and the requests whose admitted answer has one form:
GET_STATE (R174), READ_COUNTERS (R180) and DISCARD (R173). -/

namespace Sys2Proof.Machine

/-! ### From the command to the own part -/

section
variable {k : RequestKind} {f : Frame} {s : State}

theorem exec_request_of_executes (hexecutes : Executes f s) (hkind : f.kind = k.code) :
    exec k.command s = .next (s.takeHead.runRequest k (ownPart k) f) :=
  (exec_request k s).trans (congrArg Host.Outcome.next (execute_of_executes hexecutes hkind))

theorem exec_request_of_admits (hadm : Admits k f s) : exec k.command s = .next (ownPart k f s.takeHead) :=
  (exec_request k s).trans (congrArg Host.Outcome.next (execute_of_admits hadm))

/-- An own part that makes `u` of the blocks and accepts the frame answers it in `u` (R169). -/
theorem exec_request_accepted (hadm : Admits k f s) {u : State} {contents : List Byte}
    (h : ownPart k f s.takeHead = u.takeHead.accept k f contents) :
    exec k.command s = .next (answered f k.replyCode (okBody contents) u) := by
  rw [exec_request_of_admits hadm, h]
  rfl

theorem exec_request_refused (hadm : Admits k f s) {r : Rejection}
    (h : ownPart k f s.takeHead = s.takeHead.refuse k f r) :
    exec k.command s = .next (refusedWith f r.status.code (byteOf r.check) (byteOf r.index) s) := by
  rw [exec_request_of_admits hadm, h, takeHead_refuse hadm.named]

end

/-- Settles O23: an unknown kind is answered before any request's checks, and the session is checked before the length. -/
theorem commonChecks : Obligations.CommonChecks := by
  intro s f hexecutes
  refine ⟨fun hunknown => congrArg Host.Outcome.next (executeUnknown_of_executes hexecutes hunknown), fun k hkind => ?_⟩
  obtain ⟨-, hclosed, hlength⟩ := runRequest_eq k (ownPart k) f s.takeHead
  rw [exec_request_of_executes hexecutes hkind]
  constructor
  · intro hsession
    rw [hclosed hsession, takeHead_refuse hkind]
    rfl
  · intro hsession hbody
    rw [hlength hsession hbody, takeHead_refuse hkind]
    rfl

/-! ### GET_STATE, READ_COUNTERS and DISCARD -/

theorem bytes2_batchEpoch (st : ConfigStore) :
    bytes2 st.batchEpoch = match st.batch with
      | none => [0, 0]
      | some b => bytes2 b.epoch := by
  rw [ConfigStore.batchEpoch]
  cases st.batch <;> rfl

theorem bytes2OfNat_tallyCount (tally : Option Loss) :
    bytes2OfNat (tallyCount tally) = match tally with
      | none => [0, 0]
      | some l => bytes2OfNat l.count := by
  cases tally <;> rfl

/-- Settles O6: both requests accept with what they read, the batch's epoch and the tally's count 0 where there is none. -/
theorem stateAndCountersReported : Obligations.StateAndCountersReported := by
  refine ⟨fun s f hadm => ?_, fun s f hadm => ?_⟩
  · refine (exec_request_accepted hadm (u := s) (contents := s.stateContents) rfl).trans ?_
    rw [State.stateContents, bytes2_batchEpoch, bytes2OfNat_tallyCount]
    rfl
  · refine (exec_request_accepted hadm (u := s) (contents := s.counterValues.flatMap bytes4) rfl).trans ?_
    simp only [State.counterValues, List.flatMap_cons, List.flatMap_nil, List.append_nil, List.append_assoc]
    rfl

/-- Settles O10: DISCARD accepts with the number of edits it removes. -/
theorem discardEmptiesStaging : Obligations.DiscardEmptiesStaging := fun s _ hadm =>
  exec_request_accepted hadm (u := { s with store := { s.store with staging := [] } }) rfl

end Sys2Proof.Machine
end

section
/-! PROOFS. STOP and ABORT by run state (R42, R43, R171, R189), and entry into STANDBY with a batch waiting (R44, R59,
R154). -/

namespace Sys2Proof.Machine

/-! ### Entry into STANDBY -/

theorem inStandby_eq_restEngine (s : State) : inStandby s = s.restEngine.setRunState .standby := by
  rw [inStandby, ← rest_eq_restedDriver, ← rest_eq_restedDriver]
  rfl

/-- An application neither reads nor writes the run state. -/
theorem applyBatch_setRunState (b : Batch) (r : RunState) (s : State) :
    (s.setRunState r).applyBatch b = (s.applyBatch b).setRunState r := by
  rw [applyBatch_eq_latched, applyBatch_eq_latched]
  rfl

theorem enterStandby_of_batch {s : State} {b : Batch} (h : s.store.batch = some b) :
    s.enterStandby = (State.applyBatch b (inStandby s)).setRunState .standby := by
  have hboundary : s.restEngine.boundary = s.restEngine.applyBatch b := boundary_of_batch h
  rw [State.enterStandby, hboundary, inStandby_eq_restEngine, applyBatch_setRunState]
  rfl

/-! ### The frame that asks for it leaves the holding at any point -/

theorem applyBatch_takeHead (b : Batch) (s : State) : s.takeHead.applyBatch b = (s.applyBatch b).takeHead := by
  rw [applyBatch_eq_latched, applyBatch_eq_latched]
  rfl

theorem boundary_takeHead (s : State) : s.takeHead.boundary = s.boundary.takeHead := by
  rcases boundary_cases s with ⟨hnone, h⟩ | ⟨b, hsome, h⟩
  · rw [h, boundary_of_no_batch (s := s.takeHead) hnone]
  · rw [h, boundary_of_batch (s := s.takeHead) hsome, applyBatch_takeHead]

theorem enterStandby_takeHead (s : State) : s.takeHead.enterStandby = s.enterStandby.takeHead :=
  congrArg (State.setRunState .standby) (boundary_takeHead s.restEngine)

/-! ### The effects of STOP and ABORT (R42, R43) -/

/-- The run states that STOP and ABORT leave for STANDBY, no scan being in progress. -/
def AwaitsScan (s : State) : Prop :=
  s.engine.runState = .arming ∨ s.engine.runState = .waiting ∨ s.engine.runState = .doze ∨ s.engine.runState = .settling

theorem stopRun_of_scanning {s : State} (h : s.engine.runState = .scanning) : s.stopRun = s.setRunState .draining := by
  simp only [State.stopRun, h]

theorem stopRun_of_draining {s : State} (h : s.engine.runState = .draining) : s.stopRun = s := by
  simp only [State.stopRun, h]

theorem stopRun_of_standby {s : State} (h : s.engine.runState = .standby) : s.stopRun = s := by
  simp only [State.stopRun, h]

theorem stopRun_of_awaitsScan {s : State} (h : AwaitsScan s) : s.stopRun = s.enterStandby := by
  rcases h with h | h | h | h <;> simp only [State.stopRun, h]

theorem abortRun_of_inScan {s : State} (h : InScan s) : s.abortRun = s.abortScan.enterStandby := by
  rcases h with h | h <;> simp only [State.abortRun, h]

theorem abortRun_of_standby {s : State} (h : s.engine.runState = .standby) : s.abortRun = s := by
  simp only [State.abortRun, h]

theorem abortRun_of_awaitsScan {s : State} (h : AwaitsScan s) : s.abortRun = s.enterStandby := by
  rcases h with h | h | h | h <;> simp only [State.abortRun, h]

theorem stopRun_takeHead (s : State) : s.takeHead.stopRun = s.stopRun.takeHead := by
  unfold State.stopRun
  rw [State.takeHead_engine, enterStandby_takeHead]
  cases s.engine.runState <;> rfl

theorem abortRun_takeHead (s : State) : s.takeHead.abortRun = s.abortRun.takeHead := by
  have habort : s.takeHead.abortScan.enterStandby = s.abortScan.enterStandby.takeHead := enterStandby_takeHead s.abortScan
  unfold State.abortRun
  rw [State.takeHead_engine, enterStandby_takeHead, habort]
  cases s.engine.runState <;> rfl

/-! ### Their answers (R171, R189) -/

theorem exec_stop_of_admits {f : Frame} {s : State} (hadm : Admits .stop f s) :
    exec .stop s = .next (answered f 0x89 [0x00, s.stopRun.engine.runState.code] s.stopRun) :=
  exec_request_accepted hadm (by rw [ownPart, ownStop, stopRun_takeHead]; rfl)

theorem exec_abort_of_admits {f : Frame} {s : State} (hadm : Admits .abort f s) :
    exec .abort s = .next
      (answered f 0x8A
        ([0x00, s.abortRun.engine.runState.code, flagByte s.engine.runState.scanInProgress] ++
          bytes4 (if s.engine.runState.scanInProgress then s.engine.scanCounter else 0))
        s.abortRun) :=
  exec_request_accepted hadm (by rw [ownPart, ownAbort, abortRun_takeHead]; rfl)

/-- With a scan in progress the reply gives its number (R171). -/
theorem exec_abort_of_inScan {f : Frame} {s : State} (hadm : Admits .abort f s) (hscan : InScan s) :
    exec .abort s = .next (answered f 0x8A ([0x00, 0, 1] ++ bytes4 s.engine.scanCounter) s.abortScan.enterStandby) := by
  rw [exec_abort_of_admits hadm, abortRun_of_inScan hscan, (scanInProgress_iff s).2 hscan, enterStandby_engine_runState]
  rfl

theorem bytes4_zero : bytes4 0 = [0, 0, 0, 0] := by decide

/-- Without a scan in progress the reply gives the number 0 (R171). -/
theorem exec_abort_of_not_inScan {f : Frame} {s : State} (hadm : Admits .abort f s) (hscan : ¬ InScan s) :
    exec .abort s = .next (answered f 0x8A [0x00, s.abortRun.engine.runState.code, 0, 0, 0, 0, 0] s.abortRun) := by
  have hnone : s.engine.runState.scanInProgress = false := Bool.eq_false_iff.2 (mt (scanInProgress_iff s).1 hscan)
  rw [exec_abort_of_admits hadm, hnone, if_neg Bool.false_ne_true, bytes4_zero]
  rfl

theorem AwaitsScan.not_inScan {s : State} (h : AwaitsScan s) : ¬ InScan s := by
  rintro (hscan | hscan) <;> rcases h with h | h | h | h <;> exact nomatch h.symm.trans hscan

theorem not_inScan_of_standby {s : State} (h : s.engine.runState = .standby) : ¬ InScan s := by
  rintro (hscan | hscan) <;> exact nomatch h.symm.trans hscan

/-- Settles O15: the run state says what STOP and ABORT do, and a waiting batch what entry into STANDBY adds. -/
theorem stopAndAbort : Obligations.StopAndAbort := by
  refine ⟨fun s => ⟨enterStandby_eq_inStandby, fun b hbatch => enterStandby_of_batch hbatch⟩,
    fun s f => ⟨fun hadm => ?_, fun hadm => ?_⟩⟩
  · rw [exec_stop_of_admits hadm]
    refine ⟨fun h => ?_, fun h => ?_, fun h => ?_, fun h => ?_⟩
    · rw [stopRun_of_scanning h]
      rfl
    · rw [stopRun_of_draining h, h]
      rfl
    · rw [stopRun_of_standby h, h]
      rfl
    · rw [stopRun_of_awaitsScan h, enterStandby_engine_runState]
      rfl
  · refine ⟨exec_abort_of_inScan hadm, fun h => ?_, fun h => ?_⟩
    · rw [exec_abort_of_not_inScan hadm (not_inScan_of_standby h), abortRun_of_standby h, h]
      rfl
    · rw [exec_abort_of_not_inScan hadm (AwaitsScan.not_inScan h), abortRun_of_awaitsScan h, enterStandby_engine_runState]
      rfl

end Sys2Proof.Machine
end

section
/-! PROOFS. READ_TRACKER and READ_RESULTS: the records they carry and the channel that refuses them (R181, R182). -/

namespace Sys2Proof.Machine

/-! ### The records as bytes -/

theorem bitsByte_isSome {α β : Type} [DecidableEq α] [DecidableEq β] (x : Option α) (y : Option β) :
    bitsByte x.isSome y.isSome false false =
      byteOf ((if x = none then 0 else 1) + (if y = none then 0 else 2)) := by
  cases x <;> cases y <;> rfl

theorem trackerBytes_eq (n : Fin 16) (t : Tracker) :
    trackerBytes n t =
      [byteOf n.val, t.state.code] ++ bytesOfInt t.appliedOffset ++ [byteOf t.remaining] ++ bytes4 t.triggerCount ++
        [byteOf ((if t.lastEstimate = none then 0 else 1) + (if t.lastTrigger = none then 0 else 2)),
          byteOf t.window.length] ++
        t.window.flatMap bytesOfInt ++
        (match t.lastEstimate with
          | none => []
          | some e => bytesOfInt e) ++
        (match t.lastTrigger with
          | none => []
          | some m => m.kind.code :: bytes4 m.scan) := by
  rw [trackerBytes, bitsByte_isSome]
  rfl

/-! ### The answers -/

section
variable {f : Frame} {s : State}

theorem exec_readTracker_taken {ns : List (Fin 16)} (hadm : Admits .readTracker f s) (h : channelOperands f.body = .ok ns) :
    exec .readTracker s = .next
      (answered f 0x8C (okBody (byteOf ns.length :: ns.flatMap fun n => trackerBytes n s.trackers[n])) s) :=
  exec_request_accepted hadm (by simp only [ownPart, ownReadTracker, h, State.takeHead_trackers])

theorem exec_readResults_taken {ns : List (Fin 16)} (hadm : Admits .readResults f s) (h : channelOperands f.body = .ok ns) :
    exec .readResults s = .next
      (answered f 0x8D (okBody (byteOf ns.length :: ns.flatMap fun n => resultBytes n s.frontEnd.results[n])) s) :=
  exec_request_accepted hadm (by simp only [ownPart, ownReadResults, h, State.takeHead_frontEnd])

theorem readTracker_refused {r : Rejection} (h : channelOperands f.body = .error r) :
    ownPart .readTracker f s = s.refuse .readTracker f r := by
  simp only [ownPart, ownReadTracker, h]

theorem readResults_refused {r : Rejection} (h : channelOperands f.body = .error r) :
    ownPart .readResults f s = s.refuse .readResults f r := by
  simp only [ownPart, ownReadResults, h]

end

/-- Settles O17: channels up to 15 are read in their order, and the first above 15 is refused with its position. -/
theorem trackerAndResultsRead : Obligations.TrackerAndResultsRead := by
  refine ⟨fun s f ns hadm hbody => ?_, fun s f ns hadm hbody => ?_, fun s f before n after hbody hbefore hn => ?_⟩
  · rw [exec_readTracker_taken hadm (hbody ▸ channelOperands_channels ns)]
    simp only [trackerBytes_eq]
    rfl
  · rw [exec_readResults_taken hadm (hbody ▸ channelOperands_channels ns)]
    rfl
  · have hrefused : channelOperands f.body = .error ⟨.outOfRange, 0, before.length⟩ :=
      hbody ▸ channelOperands_of_above hbefore hn
    exact ⟨fun hadm => exec_request_refused hadm (readTracker_refused hrefused),
      fun hadm => exec_request_refused hadm (readResults_refused hrefused)⟩

end Sys2Proof.Machine
end

section
/-! PROOFS. The length of replies (R169): the parts they are made of, how many of them a reply holds, and the bound for every
request. -/

namespace Sys2Proof.Machine

/-! ### The parts of a reply -/

theorem length_flatMap_le {α β : Type} {g : α → List β} {m : Nat} {xs : List α}
    (h : ∀ x ∈ xs, (g x).length ≤ m) : (xs.flatMap g).length ≤ xs.length * m := by
  have hsum := List.sum_le_card_nsmul (xs.map fun x => (g x).length) m fun y hy => by
    obtain ⟨x, hx, rfl⟩ := List.mem_map.1 hy
    exact h x hx
  rwa [List.length_map, smul_eq_mul, ← List.length_flatMap] at hsum

theorem length_presentBytes_le (v : Option Int) : (presentBytes v).length ≤ 4 := by cases v <;> simp [presentBytes]

/-- A window of eight makes the longest tracker record (R71, R182). -/
theorem length_trackerBytes_le (n : Fin 16) {t : Tracker} (h : t.window.length ≤ 8) : (trackerBytes n t).length ≤ 54 := by
  have hwindow : (t.window.flatMap bytesOfInt).length ≤ t.window.length * 4 := length_flatMap_le fun _ _ => Nat.le_refl 4
  have hestimate := length_presentBytes_le t.lastEstimate
  rw [trackerBytes]
  cases t.lastTrigger <;>
    simp only [List.length_append, List.length_cons, List.length_nil, length_bytesOfInt, length_bytes4] <;> omega

theorem length_resultBytes_le (n : Fin 16) (r : Option ChannelResult) : (resultBytes n r).length ≤ 27 := by
  rcases r with _ | ⟨_, _, measured, _⟩
  · simp [resultBytes]
  · cases measured <;> simp [resultBytes]

theorem length_fieldBytes (st : ConfigStore) (v : View) (field : FieldRef) : (st.fieldBytes v field).length = 8 := rfl

theorem length_subscriptionBytes_le (e : Subscription) : e.bytes.length ≤ 24 := by
  have hreported := length_presentBytes_le e.lastReported
  simp only [Subscription.bytes, List.length_append, List.length_cons, List.length_nil, length_bytesOfInt,
    length_bytes2OfNat]
  omega

theorem length_short (e : AlertEntry) : e.short.length = 3 := rfl

theorem length_full (e : AlertEntry) : e.full.length = 11 := rfl

/-! ### How many of them a reply holds -/

theorem length_channelOperands_le {bs : List Byte} {ns : List (Fin 16)} (h : channelOperands bs = .ok ns) :
    ns.length ≤ bs.length := by
  unfold channelOperands at h
  split at h
  · cases h
  · cases h
    exact List.length_filterMap_le ..

theorem length_readConfigOperands_le {st : ConfigStore} {body : List Byte} {v : View} {fields : List FieldRef}
    (h : readConfigOperands st body = .ok (v, fields)) : fields.length ≤ 24 := by
  unfold readConfigOperands at h
  split at h
  · cases h
  · split at h
    · cases h
    · split at h
      · cases h
      · split_ifs at h with hlong
        cases h
        exact Nat.not_lt.1 hlong

/-- The set holds a key once, and there are 38 of them (R131, R132). -/
theorem AlertEntriesLaw.length_le {es : List AlertEntry} (h : AlertEntriesLaw es) : es.length ≤ 38 := by
  obtain ⟨hsorted, -⟩ := h
  have hnodup : (es.map fun e => e.key.index).Nodup := List.pairwise_map.2 (hsorted.imp fun hlt => Nat.ne_of_lt hlt)
  have hsubset : es.map (fun e => e.key.index) ⊆ List.range 38 := fun i hi => by
    obtain ⟨e, -, rfl⟩ := List.mem_map.1 hi
    exact List.mem_range.2 (Nat.lt_succ_of_le e.key.index_le)
  simpa using (List.subperm_of_subset hnodup hsubset).length_le

/-! ### The reply an answer queues -/

/-- The reply at the tail of the queue is at most 218 bytes long (R169). -/
def LastReplyFits (t : State) : Prop := ∀ r, t.link.replies.getLast? = some r → r.body.length ≤ 218

theorem lastReplyFits_answer {f : Frame} {kind : Byte} {body : List Byte} {s : State} (h : body.length ≤ 218) :
    LastReplyFits (s.answer f kind body) := by
  intro r hr
  have hlast : (s.link.replies ++ [(⟨f.seq, kind, body⟩ : Reply)]).getLast? = some r := hr
  rw [List.getLast?_concat] at hlast
  cases hlast
  exact h

theorem lastReplyFits_refuse {k : RequestKind} {f : Frame} {r : Rejection} {s : State} : LastReplyFits (s.refuse k f r) :=
  lastReplyFits_answer (show r.body.length ≤ 218 by simp [Rejection.body])

theorem lastReplyFits_accept {k : RequestKind} {f : Frame} {contents : List Byte} {s : State} (h : contents.length ≤ 217) :
    LastReplyFits (s.accept k f contents) :=
  lastReplyFits_answer (Nat.succ_le_succ h)

/-- An answer's reply is the one at the tail of the queue. -/
theorem OwnAnswer.reply_fits {k : RequestKind} {f : Frame} {s t : State} (h : OwnAnswer k f s t) (hfits : LastReplyFits t) :
    ∃ r, t.link.replies = s.link.replies ++ [r] ∧ r.body.length ≤ 218 := by
  have tail {r : Reply} (hr : t.link.replies = s.link.replies ++ [r]) :
      ∃ r, t.link.replies = s.link.replies ++ [r] ∧ r.body.length ≤ 218 :=
    ⟨r, hr, hfits r (by rw [hr, List.getLast?_concat])⟩
  cases h with
  | refused r => exact tail rfl
  | accepted u contents kept => exact tail (congrArg (· ++ _) (congrArg Traffic.replies kept.traffic))

/-! ### The reply of each request -/

section
variable {f : Frame} {s : State}

theorem ownHello_fits : LastReplyFits (ownHello f s) := by
  unfold ownHello
  split
  · exact lastReplyFits_refuse
  · rw [renewAlert_accept]
    exact lastReplyFits_accept (by simp [helloContents])

theorem ownStage_fits : LastReplyFits (ownStage f s) := by
  unfold ownStage
  split
  · exact lastReplyFits_refuse
  · dsimp only
    split_ifs
    · exact lastReplyFits_refuse
    · exact lastReplyFits_accept (by simp)

theorem ownSeal_fits : LastReplyFits (ownSeal f s) := by
  unfold ownSeal
  split
  · exact lastReplyFits_refuse
  · dsimp only
    split_ifs <;> exact lastReplyFits_accept (by simp)

/-- At most 24 fields of eight bytes (R25, R179). -/
theorem ownReadConfig_fits : LastReplyFits (ownReadConfig f s) := by
  unfold ownReadConfig
  split
  · exact lastReplyFits_refuse
  · next view fields hoperands =>
    have hcount : fields.length ≤ 24 := length_readConfigOperands_le hoperands
    have hfields : (fields.flatMap (s.store.fieldBytes view)).length ≤ fields.length * 8 :=
      length_flatMap_le fun field _ => (length_fieldBytes s.store view field).le
    refine lastReplyFits_accept ?_
    simp only [List.length_append, List.length_cons, List.length_nil, length_bytes2]
    omega

theorem ownStart_fits : LastReplyFits (ownStart f s) := by
  unfold ownStart
  split
  · exact lastReplyFits_refuse
  · exact lastReplyFits_accept (by simp)

/-- At most sixteen channels (R185). -/
theorem ownRetrack_fits : LastReplyFits (ownRetrack f s) := by
  unfold ownRetrack
  split
  · exact lastReplyFits_refuse
  · next effect ns _ =>
    have hcount : (s.triggeredChannels effect ns).length ≤ 16 :=
      (List.length_filter_le ..).trans (List.length_finRange (n := 16)).le
    refine lastReplyFits_accept ?_
    rw [List.length_cons, List.length_map]
    omega

/-- At most four records of 54 bytes: with the status and the count, the 218 bytes of R169 (R182). -/
theorem ownReadTracker_fits (hbody : f.body.length ≤ 4) (hwindow : ∀ n : Fin 16, s.trackers[n].window.length ≤ 8) :
    LastReplyFits (ownReadTracker f s) := by
  unfold ownReadTracker
  split
  · exact lastReplyFits_refuse
  · next ns hoperands =>
    have hcount : ns.length ≤ f.body.length := length_channelOperands_le hoperands
    have hrecords : (ns.flatMap fun n => trackerBytes n s.trackers[n]).length ≤ ns.length * 54 :=
      length_flatMap_le fun n _ => length_trackerBytes_le n (hwindow n)
    refine lastReplyFits_accept ?_
    rw [List.length_cons]
    omega

/-- At most eight results of 27 bytes (R181). -/
theorem ownReadResults_fits (hbody : f.body.length ≤ 8) : LastReplyFits (ownReadResults f s) := by
  unfold ownReadResults
  split
  · exact lastReplyFits_refuse
  · next ns hoperands =>
    have hcount : ns.length ≤ f.body.length := length_channelOperands_le hoperands
    have hrecords : (ns.flatMap fun n => resultBytes n s.frontEnd.results[n]).length ≤ ns.length * 27 :=
      length_flatMap_le fun n _ => length_resultBytes_le n _
    refine lastReplyFits_accept ?_
    rw [List.length_cons]
    omega

theorem ownSubscribe_fits : LastReplyFits (ownSubscribe f s) := by
  unfold ownSubscribe
  split
  · exact lastReplyFits_refuse
  · exact lastReplyFits_accept (by simp)

theorem ownUnsubscribe_fits : LastReplyFits (ownUnsubscribe f s) := by
  unfold ownUnsubscribe
  split
  · split_ifs
    · exact lastReplyFits_accept (by simp)
    · exact lastReplyFits_refuse
  · exact lastReplyFits_refuse

/-- At most eight entries of 24 bytes (R102, R177). -/
theorem listContents_length_le (first : Nat) (subs : List Subscription) : (listContents first subs).length ≤ 217 := by
  have hcount := List.length_take_le listedEntries (subs.filter fun e => decide (first ≤ e.id))
  have hentries := length_flatMap_le (xs := (subs.filter fun e => decide (first ≤ e.id)).take listedEntries)
    fun e _ => length_subscriptionBytes_le e
  simp only [listContents, List.length_append, List.length_cons, List.length_nil]
  simp only [listedEntries] at hcount hentries ⊢
  omega

theorem ownListSubscriptions_fits : LastReplyFits (ownListSubscriptions f s) := by
  unfold ownListSubscriptions
  split
  · split_ifs
    · exact lastReplyFits_refuse
    · exact lastReplyFits_accept (listContents_length_le ..)
  · exact lastReplyFits_refuse

theorem ownGrant_fits : LastReplyFits (ownGrant f s) := by
  unfold ownGrant
  split
  · split_ifs
    · exact lastReplyFits_refuse
    · exact lastReplyFits_accept (by simp)
  · exact lastReplyFits_refuse

/-- At most 38 entries of three bytes (R131, R172). -/
theorem ownAckAlerts_fits (hentries : AlertEntriesLaw s.alerts.entries) : LastReplyFits (ownAckAlerts f s) := by
  unfold ownAckAlerts
  dsimp only
  split
  · exact lastReplyFits_refuse
  · have hcount : (s.alerts.entries.filter (ackForm f.body).names).length ≤ 38 :=
      (List.length_filter_le ..).trans hentries.length_le
    have hshort : ((s.alerts.entries.filter (ackForm f.body).names).flatMap AlertEntry.short).length ≤
        (s.alerts.entries.filter (ackForm f.body).names).length * 3 := length_flatMap_le fun e _ => (length_short e).le
    rw [renewAlert_accept]
    refine lastReplyFits_accept ?_
    simp only [ackContents, List.length_append, List.length_cons, List.length_nil]
    omega

/-- At most sixteen entries of eleven bytes (R140, R178). -/
theorem readAlertsContents_length_le (first : Nat) (u : AlertUnit) : (readAlertsContents first u).length ≤ 217 := by
  have hcount := List.length_take_le listedAlerts (u.entries.filter fun e => decide (first ≤ e.key.index))
  have hentries := length_flatMap_le (xs := (u.entries.filter fun e => decide (first ≤ e.key.index)).take listedAlerts)
    fun e _ => (length_full e).le
  simp only [readAlertsContents, List.length_append, List.length_cons, List.length_nil]
  simp only [listedAlerts] at hcount hentries ⊢
  omega

theorem ownReadAlerts_fits : LastReplyFits (ownReadAlerts f s) := by
  unfold ownReadAlerts
  split
  · split_ifs
    · exact lastReplyFits_refuse
    · exact lastReplyFits_accept (readAlertsContents_length_le ..)
  · exact lastReplyFits_refuse

theorem ownPart_fits {k : RequestKind} (hbody : WellFormedBody k f.body) (halerts : AlertLaw s) (htrackers : TrackerLaw s) :
    LastReplyFits (ownPart k f s) :=
  match k with
  | .hello => ownHello_fits
  | .getState => lastReplyFits_accept (by simp [State.stateContents])
  | .reset => lastReplyFits_accept (contents := []) (Nat.zero_le _)
  | .stage => ownStage_fits
  | .discard => lastReplyFits_accept (by simp)
  | .seal => ownSeal_fits
  | .readConfig => ownReadConfig_fits
  | .start => ownStart_fits
  | .stop => lastReplyFits_accept (by simp)
  | .abort => lastReplyFits_accept (by simp)
  | .retrack => ownRetrack_fits
  | .readTracker => ownReadTracker_fits hbody.2 fun n => (htrackers n).window
  | .readResults => ownReadResults_fits hbody.2
  | .subscribe => ownSubscribe_fits
  | .unsubscribe => ownUnsubscribe_fits
  | .listSubscriptions => ownListSubscriptions_fits
  | .grant => ownGrant_fits
  | .ackAlerts => ownAckAlerts_fits halerts.entries
  | .readAlerts => ownReadAlerts_fits
  | .readCounters => lastReplyFits_accept (by simp [State.counterValues])

theorem runRequest_fits {k : RequestKind} (halerts : AlertLaw s) (htrackers : TrackerLaw s) :
    LastReplyFits (s.runRequest k (ownPart k) f) := by
  obtain ⟨hown, hclosed, hlength⟩ := runRequest_eq k (ownPart k) f s
  by_cases hsession : SessionAllows k s
  · by_cases hbody : WellFormedBody k f.body
    · exact hown hsession hbody ▸ ownPart_fits hbody halerts htrackers
    · exact hlength hsession hbody ▸ lastReplyFits_refuse
  · exact hclosed hsession ▸ lastReplyFits_refuse

end

/-- Settles O26: every request's answer queues one reply, and each of its parts is bounded by what the request may name. -/
theorem repliesFitTheFrame : Obligations.RepliesFitTheFrame := by
  intro k s t f hexecutes hkind halerts htrackers hexec
  obtain rfl := Host.Outcome.next.inj ((exec_request_of_executes hexecutes hkind).symm.trans hexec)
  have hheld : AlertLaw s.takeHead := halerts.of_eq rfl rfl
  have hanswer : OwnAnswer k f s.takeHead (s.takeHead.runRequest k (ownPart k) f) := runRequest_answers
  exact hanswer.reply_fits (runRequest_fits hheld htrackers)

end Sys2Proof.Machine
end

section
/-! PROOFS. The queue of commands: the step runs its front (log entry 3), and every operation of the part commutes with putting
another queue in its place, so that no command reads the queue or changes it. -/

namespace Sys2Proof.Machine

/-- Settles O1: the queue's front and its rest are read off by `step`. -/
theorem stepRunsFrontCommand : Obligations.StepRunsFrontCommand := by
  refine ⟨fun c rest s => rfl, fun s hempty => ?_⟩
  rw [step, hempty]

/-! ### The state with another queue of commands -/

/-- The state with the queue `q` of commands in place of its own. -/
def State.withPending (q : List Instr) (s : State) : State := { s with pending := q }

/-- `f` neither reads nor changes the queue of commands. -/
def QueueBlind (f : State → State) : Prop := ∀ (q : List Instr) (s : State), f (s.withPending q) = (f s).withPending q

section
variable (q : List Instr) (s : State)

@[simp] theorem withPending_phase : (s.withPending q).phase = s.phase := rfl
@[simp] theorem withPending_store : (s.withPending q).store = s.store := rfl
@[simp] theorem withPending_engine : (s.withPending q).engine = s.engine := rfl
@[simp] theorem withPending_frontEnd : (s.withPending q).frontEnd = s.frontEnd := rfl
@[simp] theorem withPending_drivers : (s.withPending q).drivers = s.drivers := rfl
@[simp] theorem withPending_subs : (s.withPending q).subs = s.subs := rfl
@[simp] theorem withPending_link : (s.withPending q).link = s.link := rfl

/-- A choice that is made without the queue, between two states that differ in it alone. -/
theorem ite_withPending {q : List Instr} {p : Prop} {_ : Decidable p} {t u t' u' : State} (ht : t' = t.withPending q)
    (hu : u' = u.withPending q) : (if p then t' else u') = (if p then t else u).withPending q := by
  rw [ht, hu, apply_ite (State.withPending q)]

/-! ### Latches and batches -/

/-- Latches made in states that differ in the queue alone. -/
theorem latchAll_withPending {q : List Instr} {ks : List AlertKey} {t t' : State} (h : t' = t.withPending q) :
    t'.latchAll ks = (t.latchAll ks).withPending q := by
  rw [h, latchAll_eq_latched, latchAll_eq_latched]
  rfl

theorem latch_withPending {q : List Instr} {k : AlertKey} {t t' : State} (h : t' = t.withPending q) :
    t'.latch k = (t.latch k).withPending q := by
  rw [h, latch_eq_latched, latch_eq_latched]
  rfl

theorem renewAlert_withPending {q : List Instr} {t t' : State} (h : t' = t.withPending q) :
    t'.renewAlert = t.renewAlert.withPending q := by
  subst h
  exact ite_withPending rfl rfl

theorem applyBatch_withPending (b : Batch) : (s.withPending q).applyBatch b = (s.applyBatch b).withPending q := by
  rw [applyBatch_eq_latched, applyBatch_eq_latched]
  rfl

theorem boundary_withPending : (s.withPending q).boundary = s.boundary.withPending q := by
  unfold State.boundary
  rw [withPending_store]
  cases s.store.batch with
  | none => rfl
  | some b => exact applyBatch_withPending q s b

/-! ### The scan engine -/

theorem scanStart_withPending : (s.withPending q).scanStart = s.scanStart.withPending q := by
  have hboundary : (s.withPending q).countScan.boundary = s.countScan.boundary.withPending q :=
    boundary_withPending q s.countScan
  unfold State.scanStart
  dsimp only
  rw [hboundary]
  rfl

theorem enterStandby_withPending : (s.withPending q).enterStandby = s.enterStandby.withPending q :=
  congrArg (State.setRunState .standby) (boundary_withPending q s.restEngine)

theorem overrun_withPending : (s.withPending q).overrun = s.overrun.withPending q := latch_withPending rfl

theorem missTrigger_withPending : (s.withPending q).missTrigger = s.missTrigger.withPending q := latch_withPending rfl

theorem armingSettled_withPending : (s.withPending q).armingSettled = s.armingSettled.withPending q := by
  unfold State.armingSettled
  rw [withPending_engine]
  cases s.engine.runState with
  | arming =>
    rcases s.engine.settle with _ | ⟨expiry⟩ | _
    · rfl
    · cases s.engine.mode with
      | free => exact scanStart_withPending q (s.reach expiry)
      | triggered => rfl
    · rfl
  | standby | waiting | scanning | draining | doze | settling => rfl

theorem wakeSettled_withPending : (s.withPending q).wakeSettled = s.wakeSettled.withPending q := by
  unfold State.wakeSettled
  rw [withPending_engine]
  cases s.engine.runState with
  | settling =>
    rcases s.engine.settle with _ | _ | ⟨expiry⟩
    · rfl
    · rfl
    · exact scanStart_withPending q (s.reach expiry)
  | standby | arming | waiting | scanning | draining | doze => rfl

theorem onExpiry_withPending : (s.withPending q).onExpiry = s.onExpiry.withPending q := by
  unfold State.onExpiry
  rw [withPending_engine]
  cases s.engine.runState with
  | waiting => exact scanStart_withPending q s
  | settling | scanning => exact overrun_withPending q s
  | doze | draining | standby | arming => rfl

theorem timerExpires_withPending : (s.withPending q).timerExpires = s.timerExpires.withPending q := by
  unfold State.timerExpires
  rw [withPending_engine]
  cases s.engine.timer with
  | stopped => rfl
  | running period due => exact onExpiry_withPending q (s.reloadTimer period due)

theorem onTrigger_withPending : (s.withPending q).onTrigger = s.onTrigger.withPending q := by
  unfold State.onTrigger
  rw [withPending_engine]
  cases s.engine.mode with
  | free => rfl
  | triggered =>
    cases s.engine.runState with
    | waiting => exact scanStart_withPending q s
    | arming | settling | scanning | draining => exact missTrigger_withPending q s
    | doze | standby => rfl

theorem takeTrigger_withPending : (s.withPending q).takeTrigger = s.takeTrigger.withPending q := by
  unfold State.takeTrigger
  rw [withPending_engine]
  cases s.engine.qualifier with
  | idle => rfl
  | timing edge width => exact onTrigger_withPending q { s with engine := { s.engine with qualifier := .idle } }

theorem stopRun_withPending : (s.withPending q).stopRun = s.stopRun.withPending q := by
  unfold State.stopRun
  rw [withPending_engine]
  cases s.engine.runState with
  | arming | waiting | doze | settling => exact enterStandby_withPending q s
  | scanning | standby | draining => rfl

theorem abortRun_withPending : (s.withPending q).abortRun = s.abortRun.withPending q := by
  unfold State.abortRun
  rw [withPending_engine]
  cases s.engine.runState with
  | scanning | draining => exact enterStandby_withPending q s.abortScan
  | arming | waiting | doze | settling => exact enterStandby_withPending q s
  | standby => rfl

/-! ### The transmitter -/

theorem beginChoice_withPending (c : Choice) : (s.withPending q).beginChoice c = (s.beginChoice c).withPending q := by
  cases c <;> rfl

theorem candidate_withPending : (s.withPending q).candidate = s.candidate := rfl

theorem arbiter_withPending : (s.withPending q).arbiter = s.arbiter.withPending q := by
  unfold State.arbiter
  rw [candidate_withPending]
  cases s.candidate with
  | none => exact ite_withPending rfl rfl
  | some c => exact ite_withPending (beginChoice_withPending q s c) rfl

theorem endTransmission_withPending (rate : Level) :
    (s.withPending q).endTransmission rate = (s.endTransmission rate).withPending q := by
  unfold State.endTransmission
  rw [withPending_link]
  cases s.link.transmitter with
  | idle => rfl
  | sending f => exact ite_withPending rfl rfl

/-! ### The receiver -/

theorem timeoutFrame_withPending : (s.withPending q).timeoutFrame = s.timeoutFrame.withPending q := latch_withPending rfl

theorem lengthFault_withPending : (s.withPending q).lengthFault = s.lengthFault.withPending q := latch_withPending rfl

theorem crcFault_withPending : (s.withPending q).crcFault = s.crcFault.withPending q := latch_withPending rfl

theorem overflowFault_withPending : (s.withPending q).overflowFault = s.overflowFault.withPending q := latch_withPending rfl

theorem arrival_withPending (f : RxFrame) (high low : Byte) :
    (s.withPending q).arrival f high low = (s.arrival f high low).withPending q := by
  unfold State.arrival
  exact ite_withPending (crcFault_withPending q s) (ite_withPending rfl (overflowFault_withPending q s))

theorem headerByte_withPending (f : RxFrame) (b : Byte) :
    (s.withPending q).headerByte f b = (s.headerByte f b).withPending q := by
  unfold State.headerByte
  rcases f.len with _ | len
  · exact ite_withPending (lengthFault_withPending q s) rfl
  · cases f.seq <;> rfl

theorem checkByte_withPending (f : RxFrame) (b : Byte) :
    (s.withPending q).checkByte f b = (s.checkByte f b).withPending q := by
  unfold State.checkByte
  cases f.crcHigh with
  | none => rfl
  | some high => exact arrival_withPending q s f high b

theorem receiveByte_withPending (b : Byte) : (s.withPending q).receiveByte b = (s.receiveByte b).withPending q := by
  unfold State.receiveByte
  dsimp only
  rw [withPending_link]
  cases s.link.rxState with
  | inactive | wakeListen | wakeQuiet | body => rfl
  | hunt => exact ite_withPending rfl rfl
  | sync => exact ite_withPending rfl (ite_withPending rfl rfl)
  | header => exact headerByte_withPending q s _ b
  | check => exact checkByte_withPending q s _ b

theorem framingError_withPending (late : Bool) :
    (s.withPending q).framingError late = (s.framingError late).withPending q := by
  unfold State.framingError
  exact ite_withPending (timeoutFrame_withPending q s) rfl

theorem receiveCharacter_withPending (c : Character) :
    (s.withPending q).receiveCharacter c = (s.receiveCharacter c).withPending q := by
  unfold State.receiveCharacter
  cases c with
  | byte b => exact ite_withPending rfl (receiveByte_withPending q s.characterEnds b)
  | framingError late => exact ite_withPending rfl (framingError_withPending q s.characterEnds late)

theorem characterTimesOut_withPending : (s.withPending q).characterTimesOut = s.characterTimesOut.withPending q := by
  unfold State.characterTimesOut
  exact ite_withPending (timeoutFrame_withPending q s) rfl

theorem receiveBreak_withPending (rate : Level) :
    (s.withPending q).receiveBreak rate = (s.receiveBreak rate).withPending q := by
  have hcut (u : State) :
      (if u.link.resetTaken = true ∧ u.link.resetReplyPending = true then (u.withPending q).breakLink.requestedReset rate
        else (u.withPending q).breakLink) =
      (if u.link.resetTaken = true ∧ u.link.resetReplyPending = true then u.breakLink.requestedReset rate
        else u.breakLink).withPending q := ite_withPending rfl rfl
  unfold State.receiveBreak
  refine ite_withPending rfl ?_
  rw [withPending_link]
  split_ifs with hlisten
  · exact hcut s.wakeByStartBit
  · exact hcut s

theorem takeStartBit_withPending : (s.withPending q).takeStartBit = s.takeStartBit.withPending q := by
  unfold State.takeStartBit
  rw [withPending_link]
  cases s.link.rxState <;> exact ite_withPending rfl rfl

/-! ### Resets -/

theorem powerOn_withPending (resetN rate : Level) :
    (s.withPending q).powerOn resetN rate = (s.powerOn resetN rate).withPending q := by
  cases resetN <;> rfl

theorem resetNLow_withPending : (s.withPending q).resetNLow = s.resetNLow.withPending q := by
  unfold State.resetNLow
  rw [withPending_phase]
  cases s.phase <;> rfl

theorem resetNHigh_withPending (rate : Level) : (s.withPending q).resetNHigh rate = (s.resetNHigh rate).withPending q := by
  unfold State.resetNHigh
  rw [withPending_phase]
  cases s.phase <;> rfl

theorem endStartUp_withPending : (s.withPending q).endStartUp = s.endStartUp.withPending q := by
  unfold State.endStartUp
  rw [withPending_phase]
  cases s.phase <;> rfl

/-! ### Conversions and scan completion -/

theorem overcurrent_withPending (g : Group) : (s.withPending q).overcurrent g = (s.overcurrent g).withPending q := by
  unfold State.overcurrent
  exact ite_withPending (latch_withPending rfl) rfl

theorem rewriteResults_withPending : (s.withPending q).rewriteResults = s.rewriteResults.withPending q := latchAll_withPending rfl

theorem trackCompletion_withPending : (s.withPending q).trackCompletion = s.trackCompletion.withPending q := latchAll_withPending rfl

theorem arrive_withPending (r : ReportRecord) : (s.withPending q).arrive r = (s.arrive r).withPending q := by
  rw [arrive_eq_latched, arrive_eq_latched]
  rfl

theorem arriveAll_withPending (choice : Option Nat) : ∀ (rs : List ReportRecord) (done : Nat) (s : State),
    (s.withPending q).arriveAll choice done rs = (s.arriveAll choice done rs).withPending q
  | [], _, _ => rfl
  | [r], _, s => arrive_withPending q s r
  | r :: r' :: rest, done, s => by
    unfold State.arriveAll
    dsimp only
    rw [arrive_withPending, arbiter_withPending, ← apply_ite (State.withPending q), arriveAll_withPending]

theorem evaluateSubscriptions_withPending (choice : Option Nat) :
    (s.withPending q).evaluateSubscriptions choice = (s.evaluateSubscriptions choice).withPending q := by
  unfold State.evaluateSubscriptions
  dsimp only
  rw [← arriveAll_withPending]
  rfl

theorem leaveScan_withPending : (s.withPending q).leaveScan = s.leaveScan.withPending q := by
  unfold State.leaveScan
  exact ite_withPending rfl (enterStandby_withPending q s)

theorem completeScan_withPending (choice : Option Nat) :
    (s.withPending q).completeScan choice = (s.completeScan choice).withPending q := by
  have hcount : (s.withPending q).countCompletion = s.countCompletion.withPending q := rfl
  have hclear (t : State) : (t.withPending q).clearScan = t.clearScan.withPending q := rfl
  unfold State.completeScan
  rw [hcount, rewriteResults_withPending, trackCompletion_withPending, evaluateSubscriptions_withPending, hclear,
    leaveScan_withPending]

theorem endSlot_withPending (choice : Option Nat) (sl : SlotInFlight) :
    (s.withPending q).endSlot choice sl = (s.endSlot choice sl).withPending q := by
  unfold State.endSlot
  rw [withPending_store]
  cases s.store.live.plan[sl.number + 1]? with
  | some next => rfl
  | none =>
    exact completeScan_withPending q
      { s with frontEnd := { s.frontEnd.append sl.kind sl.channel sl.reading with slot := none } } choice

theorem endConversion_withPending (code : Int) (senseGood : Bool) (choice : Option Nat) (sl : SlotInFlight) :
    (s.withPending q).endConversion code senseGood choice sl = (s.endConversion code senseGood choice sl).withPending q := by
  unfold State.endConversion
  dsimp only
  rw [withPending_drivers]
  rcases sl.advance (conversionStatus (s.drivers.get sl.group) senseGood code) code with ⟨sl1, _ | _⟩
  · rfl
  · exact endSlot_withPending q (s.reach sl.endsAt) choice sl1

theorem conversionEnds_withPending (code : BitVec 24) (senseGood : Bool) (choice : Option Nat) :
    (s.withPending q).conversionEnds code senseGood choice = (s.conversionEnds code senseGood choice).withPending q := by
  unfold State.conversionEnds
  rw [withPending_frontEnd]
  cases s.frontEnd.slot with
  | none => rfl
  | some sl => exact ite_withPending (endConversion_withPending q s code.toInt senseGood choice sl) rfl

end

/-! ### Requests -/

section
variable (q : List Instr) (f : Frame) (s : State)

theorem ownHello_withPending : ownHello f (s.withPending q) = (ownHello f s).withPending q := by
  unfold ownHello
  cases helloOperands f.body with
  | error r => rfl
  | ok operands => exact renewAlert_withPending rfl

theorem ownStage_withPending : ownStage f (s.withPending q) = (ownStage f s).withPending q := by
  unfold ownStage
  cases checkEdits f.seq 0 (rawEdits f.body) with
  | error r => rfl
  | ok es => exact ite_withPending rfl rfl

theorem sealFault_withPending : (s.withPending q).sealFault = s.sealFault := rfl

theorem ownSeal_withPending : ownSeal f (s.withPending q) = (ownSeal f s).withPending q := by
  unfold ownSeal
  rw [sealFault_withPending]
  cases s.sealFault with
  | some r => rfl
  | none =>
    exact ite_withPending
      (congrArg (State.accept .seal f _)
        (applyBatch_withPending q { s with store := { s.store with staging := [] } } s.store.sealedBatch))
      rfl

theorem ownReadConfig_withPending : ownReadConfig f (s.withPending q) = (ownReadConfig f s).withPending q := by
  unfold ownReadConfig
  rw [withPending_store]
  cases readConfigOperands s.store f.body <;> rfl

theorem ownStart_withPending : ownStart f (s.withPending q) = (ownStart f s).withPending q := by
  unfold ownStart
  rw [withPending_engine]
  cases startOperands s.engine.runState f.body <;> rfl

theorem ownStop_withPending : ownStop f (s.withPending q) = (ownStop f s).withPending q := by
  unfold ownStop
  rw [stopRun_withPending]
  rfl

theorem ownAbort_withPending : ownAbort f (s.withPending q) = (ownAbort f s).withPending q := by
  unfold ownAbort
  rw [abortRun_withPending]
  rfl

theorem ownRetrack_withPending : ownRetrack f (s.withPending q) = (ownRetrack f s).withPending q := by
  unfold ownRetrack
  cases retrackOperands f.body <;> rfl

theorem ownReadTracker_withPending : ownReadTracker f (s.withPending q) = (ownReadTracker f s).withPending q := by
  unfold ownReadTracker
  cases channelOperands f.body <;> rfl

theorem ownReadResults_withPending : ownReadResults f (s.withPending q) = (ownReadResults f s).withPending q := by
  unfold ownReadResults
  cases channelOperands f.body <;> rfl

theorem ownSubscribe_withPending : ownSubscribe f (s.withPending q) = (ownSubscribe f s).withPending q := by
  unfold ownSubscribe
  rw [withPending_subs]
  cases subscribeOperands s.subs f.body <;> rfl

theorem ownUnsubscribe_withPending : ownUnsubscribe f (s.withPending q) = (ownUnsubscribe f s).withPending q := by
  unfold ownUnsubscribe
  rcases f.body with _ | ⟨id, _ | _⟩
  exacts [rfl, ite_withPending rfl rfl, rfl]

theorem ownListSubscriptions_withPending :
    ownListSubscriptions f (s.withPending q) = (ownListSubscriptions f s).withPending q := by
  unfold ownListSubscriptions
  rcases f.body with _ | ⟨first, _ | _⟩
  exacts [rfl, ite_withPending rfl rfl, rfl]

theorem ownGrant_withPending : ownGrant f (s.withPending q) = (ownGrant f s).withPending q := by
  unfold ownGrant
  rcases f.body with _ | ⟨n, _ | _⟩
  exacts [rfl, ite_withPending rfl rfl, rfl]

theorem ownAckAlerts_withPending : ownAckAlerts f (s.withPending q) = (ownAckAlerts f s).withPending q := by
  unfold ownAckAlerts
  dsimp only
  cases (ackForm f.body).fault with
  | some r => rfl
  | none => exact renewAlert_withPending rfl

theorem ownReadAlerts_withPending : ownReadAlerts f (s.withPending q) = (ownReadAlerts f s).withPending q := by
  unfold ownReadAlerts
  rcases f.body with _ | ⟨first, _ | _⟩
  exacts [rfl, ite_withPending rfl rfl, rfl]

theorem ownPart_withPending : ∀ k : RequestKind, ownPart k f (s.withPending q) = (ownPart k f s).withPending q
  | .hello => ownHello_withPending q f s
  | .getState => rfl
  | .reset => rfl
  | .stage => ownStage_withPending q f s
  | .discard => rfl
  | .seal => ownSeal_withPending q f s
  | .readConfig => ownReadConfig_withPending q f s
  | .start => ownStart_withPending q f s
  | .stop => ownStop_withPending q f s
  | .abort => ownAbort_withPending q f s
  | .retrack => ownRetrack_withPending q f s
  | .readTracker => ownReadTracker_withPending q f s
  | .readResults => ownReadResults_withPending q f s
  | .subscribe => ownSubscribe_withPending q f s
  | .unsubscribe => ownUnsubscribe_withPending q f s
  | .listSubscriptions => ownListSubscriptions_withPending q f s
  | .grant => ownGrant_withPending q f s
  | .ackAlerts => ownAckAlerts_withPending q f s
  | .readAlerts => ownReadAlerts_withPending q f s
  | .readCounters => rfl

/-- The common checks read the session and the frame alone (R168). -/
theorem runRequest_withPending (k : RequestKind) :
    (s.withPending q).runRequest k (ownPart k) f = (s.runRequest k (ownPart k) f).withPending q := by
  unfold State.runRequest
  exact ite_withPending rfl (ite_withPending rfl (ownPart_withPending q f s k))

theorem frameToTake_withPending : (s.withPending q).frameToTake = s.frameToTake := rfl

theorem execute_withPending (k : RequestKind) :
    (s.withPending q).execute k (ownPart k) = (s.execute k (ownPart k)).withPending q := by
  unfold State.execute
  rw [frameToTake_withPending]
  cases s.frameToTake with
  | none => rfl
  | some f => exact ite_withPending (runRequest_withPending q f s.takeHead k) rfl

theorem executeUnknown_withPending : (s.withPending q).executeUnknown = s.executeUnknown.withPending q := by
  unfold State.executeUnknown
  rw [frameToTake_withPending]
  cases s.frameToTake with
  | none => rfl
  | some f => exact ite_withPending rfl rfl

theorem answerDuplicate_withPending : (s.withPending q).answerDuplicate = s.answerDuplicate.withPending q := by
  unfold State.answerDuplicate
  rw [frameToTake_withPending, withPending_link]
  cases s.frameToTake with
  | none => rfl
  | some f =>
    cases s.link.memory with
    | none => rfl
    | some m => exact ite_withPending rfl rfl

end

/-! ### Every command -/

/-- `c` answers the state that a function blind to the queue makes. -/
def RunsBlind (c : Instr) : Prop := ∃ f : State → State, QueueBlind f ∧ ∀ s, exec c s = .next (f s)

theorem runsBlind_request (k : RequestKind) : RunsBlind k.command :=
  ⟨_, fun q s => execute_withPending q s k, exec_request k⟩

/-- An event that takes place only while the part runs (log entry 12). -/
theorem QueueBlind.whileRunning {f : State → State} (h : QueueBlind f) : QueueBlind (State.whileRunning f) := by
  intro q s
  unfold State.whileRunning
  exact ite_withPending (h q s) rfl

theorem runsBlind_whileRunning {c : Instr} {f : State → State} (hexec : ∀ s, exec c s = .next (s.whileRunning f))
    (h : QueueBlind f) : RunsBlind c :=
  ⟨_, h.whileRunning, hexec⟩

/-- The function is the request's execution, or the event that the command is. -/
theorem runsBlind : ∀ c : Instr, RunsBlind c
  | .hello => runsBlind_request .hello
  | .getState => runsBlind_request .getState
  | .reset => runsBlind_request .reset
  | .stage => runsBlind_request .stage
  | .discard => runsBlind_request .discard
  | .seal => runsBlind_request .seal
  | .readConfig => runsBlind_request .readConfig
  | .start => runsBlind_request .start
  | .stop => runsBlind_request .stop
  | .abort => runsBlind_request .abort
  | .retrack => runsBlind_request .retrack
  | .readTracker => runsBlind_request .readTracker
  | .readResults => runsBlind_request .readResults
  | .subscribe => runsBlind_request .subscribe
  | .unsubscribe => runsBlind_request .unsubscribe
  | .listSubscriptions => runsBlind_request .listSubscriptions
  | .grant => runsBlind_request .grant
  | .ackAlerts => runsBlind_request .ackAlerts
  | .readAlerts => runsBlind_request .readAlerts
  | .readCounters => runsBlind_request .readCounters
  | .unknownKind => ⟨_, executeUnknown_withPending, fun _ => rfl⟩
  | .duplicate => ⟨_, answerDuplicate_withPending, fun _ => rfl⟩
  | .frameArrival crcLow => runsBlind_whileRunning (fun _ => rfl) fun q s =>
    ite_withPending (receiveByte_withPending q s.characterEnds crcLow) rfl
  | .lengthError _ => runsBlind_whileRunning (fun _ => rfl) fun q s =>
    ite_withPending (lengthFault_withPending q s.characterEnds) rfl
  | .characterTimeout => runsBlind_whileRunning (fun _ => rfl) characterTimesOut_withPending
  | .breakDetected rate => runsBlind_whileRunning (fun _ => rfl) fun q s => receiveBreak_withPending q s rate
  | .breakEnd => runsBlind_whileRunning (fun _ => rfl) fun _ _ => rfl
  | .wake => runsBlind_whileRunning (fun _ => rfl) takeStartBit_withPending
  | .wakeQuietEnd => runsBlind_whileRunning (fun _ => rfl) fun _ _ => ite_withPending rfl rfl
  | .arbiterChoice => ⟨_, arbiter_withPending, fun _ => rfl⟩
  | .transmitEnd rate => runsBlind_whileRunning (fun _ => rfl) fun q s => endTransmission_withPending q s rate
  | .powerOn resetN rate => ⟨_, fun q s => powerOn_withPending q s resetN rate, fun _ => rfl⟩
  | .resetNLow => ⟨_, resetNLow_withPending, fun _ => rfl⟩
  | .resetNHigh rate => ⟨_, fun q s => resetNHigh_withPending q s rate, fun _ => rfl⟩
  | .startUpEnd => ⟨_, endStartUp_withPending, fun _ => rfl⟩
  | .armingSettleEnd => runsBlind_whileRunning (fun _ => rfl) armingSettled_withPending
  | .timerExpiry => runsBlind_whileRunning (fun _ => rfl) timerExpires_withPending
  | .trigEdge direction => runsBlind_whileRunning (f := State.trigTransition direction) (fun _ => rfl) fun _ _ => rfl
  | .trigger => runsBlind_whileRunning (fun _ => rfl) takeTrigger_withPending
  | .wakeSettleEnd => runsBlind_whileRunning (fun _ => rfl) wakeSettled_withPending
  | .syncPulseEnd => runsBlind_whileRunning (fun _ => rfl) fun _ _ => rfl
  | .conversionEnd code senseGood choice =>
    runsBlind_whileRunning (fun _ => rfl) fun q s => conversionEnds_withPending q s code senseGood choice
  | .dozeEntry => runsBlind_whileRunning (fun _ => rfl) fun _ _ => ite_withPending rfl rfl
  | .overcurrent group => runsBlind_whileRunning (fun _ => rfl) fun q s => overcurrent_withPending q s group
  | .characterReceived c => runsBlind_whileRunning (fun _ => rfl) fun q s => receiveCharacter_withPending q s c

/-- Settles O2: what a command makes of a state is made by a function that is blind to the queue. -/
theorem commandsLeaveTheQueueAlone : Obligations.CommandsLeaveTheQueueAlone := by
  intro c s
  obtain ⟨f, hblind, hexec⟩ := runsBlind c
  refine ⟨f s, fun q => ?_⟩
  calc
    exec c (s.withPending q) = .next (f (s.withPending q)) := hexec _
    _ = .next ((f s).withPending q) := congrArg _ (hblind q s)

end Sys2Proof.Machine
end
